-- ==== Sys2Proof/Word.lean ====
section
/-! DEFINITION. Word.lean: the words of the PDC and their plainest parts.
A data byte, luma sample, fill value or command code is 8 bits and a coordinate, dimension or length is 16 bits
(spec/00_scope.md R13); a host request is one 72-bit word (spec/30_encoding.md R91); a line level is one bit. -/

namespace Sys2Proof

/-- An 8-bit unsigned value (R13). -/
abbrev Byte := BitVec 8

/-- A 16-bit unsigned value: a coordinate, a dimension or a length (R13). -/
abbrev Half := BitVec 16

/-- The 72-bit host request word `req` (R91). -/
abbrev Request := BitVec 72

/-- A line level (R13, R17): `low` is 0, `high` is 1. -/
inductive Level where
  | low
  | high
deriving DecidableEq, Repr, Inhabited

/-- An instruction as it is stored, at one of the two encoded interfaces of R90: a 72-bit host request, or a panel
command as the bytes of its command frame and of the operand bytes that follow it. -/
inductive CodeWord where
  | request (w : Request)
  | command (bytes : List Byte)
deriving DecidableEq, Repr

end Sys2Proof
end

