-- ==== Sys2Proof/Config.lean ====
section
/-! DEFINITION. Config.lean: the implementation parameters of spec/00_scope.md R5 to R12, and the model's free values.
"Every parameter below is a field of the model's configuration. A claim may fix a parameter or quantify over it": the
configuration is a field of State, so a claim about every state quantifies over it. -/

namespace Sys2Proof

/-- The fifteen panel command codes, each a named parameter (R11, R100). -/
structure PanelCodes where
  driverOutput     : Byte
  boosterSoftStart : Byte
  writeVcom        : Byte
  dummyLinePeriod  : Byte
  gateLineWidth    : Byte
  dataEntryMode    : Byte
  writeLut         : Byte
  setRamXRange     : Byte
  setRamYRange     : Byte
  setRamXCounter   : Byte
  setRamYCounter   : Byte
  writeRam         : Byte
  displayUpdate2   : Byte
  masterActivation : Byte
  terminateFrame   : Byte
deriving DecidableEq, Repr

/-- The codes in the order of the table of R100. -/
def PanelCodes.toList (k : PanelCodes) : List Byte :=
  [k.driverOutput, k.boosterSoftStart, k.writeVcom, k.dummyLinePeriod, k.gateLineWidth, k.dataEntryMode, k.writeLut,
   k.setRamXRange, k.setRamYRange, k.setRamXCounter, k.setRamYCounter, k.writeRam, k.displayUpdate2,
   k.masterActivation, k.terminateFrame]

/-- The set of values the source imposes on the codes (R11). -/
def fifteenCodes : List Byte :=
  [0x01, 0x0C, 0x11, 0x20, 0x22, 0x24, 0x2C, 0x32, 0x3A, 0x3B, 0x44, 0x45, 0x4E, 0x4F, 0xFF]

/-- Which of the two waveform tables `INIT` sends (R9). -/
inductive LutSelect where
  | full
  | partialUpdate
deriving DecidableEq, Repr

/-- The implementation parameters (R5, R8 to R12). -/
structure Config where
  width            : Nat
  height           : Nat
  tRstPre          : Nat
  tRstLow          : Nat
  tRstPost         : Nat
  tPoll            : Nat
  lutFull          : List Byte
  lutPartial       : List Byte
  lutSelect        : LutSelect
  actFlags         : Byte
  codes            : PanelCodes
  busyTimeoutPolls : Option Nat
  framePerByte     : Bool
  paySize          : Nat
deriving DecidableEq, Repr

namespace Config

/-- `WB = WIDTH / 8`, the bytes of one panel row (R5). -/
def wb (c : Config) : Nat := c.width / 8

/-- `BUFLEN = WB * HEIGHT` (R5). -/
def buflen (c : Config) : Nat := c.wb * c.height

/-- The legal geometry: `WIDTH mod 8 = 0`, `8 <= WIDTH <= 2048`, `1 <= HEIGHT <= 65535` (R6). -/
def legalGeometry (c : Config) : Bool :=
  c.width % 8 == 0 && decide (8 ≤ c.width) && decide (c.width ≤ 2048) && decide (1 ≤ c.height) &&
    decide (c.height ≤ 65535)

/-- Each waveform table is "a constant sequence of exactly 30 bytes" (R9). -/
def legalTables (c : Config) : Bool :=
  c.lutFull.length == 30 && c.lutPartial.length == 30

/-- "the set of the fifteen values is exactly" the set of R11. -/
def legalCodes (c : Config) : Bool :=
  c.codes.toList.isPerm fifteenCodes

/-- The legal values of `BUSY_TIMEOUT_POLLS` and `PAY_SIZE` (R12). -/
def legalSwitches (c : Config) : Bool :=
  (match c.busyTimeoutPolls with
    | none => true
    | some n => decide (1 ≤ n)) && decide (1 ≤ c.paySize) && decide (c.paySize ≤ 65535)

/-- The configuration is an instance of the PDC. "A configuration outside this range is not an instance of the PDC; the
model refuses to build it" (R6; the same for R9, R11 and R12). -/
def legal (c : Config) : Bool :=
  c.legalGeometry && c.legalTables && c.legalCodes && c.legalSwitches

/-- `ROM[0 .. 29] = LUT_FULL`, `ROM[30 .. 59] = LUT_PARTIAL` (R64). -/
def rom (c : Config) : List Byte := c.lutFull ++ c.lutPartial

/-- The selected table: `MemRead(ROM, 0, 30)` or `MemRead(ROM, 30, 30)` by `LUT_SELECT` (R64). -/
def lut (c : Config) : List Byte :=
  match c.lutSelect with
  | .full => (c.rom.drop 0).take 30
  | .partialUpdate => (c.rom.drop 30).take 30

end Config

/-- The pairing of codes and names (R100). PRESUMED: the spec takes it from general knowledge (G2); log entry 3. -/
def PanelCodes.generalKnowledge : PanelCodes where
  driverOutput     := 0x01
  boosterSoftStart := 0x0C
  writeVcom        := 0x2C
  dummyLinePeriod  := 0x3A
  gateLineWidth    := 0x3B
  dataEntryMode    := 0x11
  writeLut         := 0x32
  setRamXRange     := 0x44
  setRamYRange     := 0x45
  setRamXCounter   := 0x4E
  setRamYCounter   := 0x4F
  writeRam         := 0x24
  displayUpdate2   := 0x22
  masterActivation := 0x20
  terminateFrame   := 0xFF

/-- The configuration of the reset state: the source's only named geometry, 128×296 (R7), and the default of every
other parameter (R8, R9, R12). DESIGN CHOICE for the geometry, which "is an example, not a default" (log entry 2);
PRESUMED for the codes, the two tables and `ACT_FLAGS`, which the spec takes from general knowledge (G2 to G4; log
entry 3). -/
def Config.reference : Config where
  width            := 128
  height           := 296
  tRstPre          := 200
  tRstLow          := 5
  tRstPost         := 200
  tPoll            := 200
  lutFull          :=
    [0x02, 0x02, 0x01, 0x11, 0x12, 0x12, 0x22, 0x22, 0x66, 0x69, 0x69, 0x59, 0x58, 0x99, 0x99, 0x88,
     0x00, 0x00, 0x00, 0x00, 0xF8, 0xB4, 0x13, 0x51, 0x35, 0x51, 0x51, 0x19, 0x01, 0x00]
  lutPartial       :=
    [0x10, 0x18, 0x18, 0x08, 0x18, 0x18, 0x08, 0x00, 0x00, 0x00, 0x00, 0x00, 0x00, 0x00, 0x00, 0x00,
     0x00, 0x00, 0x00, 0x00, 0x13, 0x14, 0x44, 0x12, 0x00, 0x00, 0x00, 0x00, 0x00, 0x00]
  lutSelect        := .full
  actFlags         := 0xC4
  codes            := PanelCodes.generalKnowledge
  busyTimeoutPolls := none
  framePerByte     := false
  paySize          := 256

/-! ## Free values

Constants with no body: nothing can evaluate them, so a claim holds whatever they are (log entries 5 and 6). -/

/-- Whether `open()` succeeds (R150), when it is the environment's `n`-th answer and the state's script of answers
leaves it open: "`draw v ∈ S` takes a value from set `S` chosen by the environment under no law" (R18). -/
opaque Config.openAnswer : Nat → Bool

/-- Whether a write aborts (R155), in the same way. -/
opaque Config.abortAnswer : Nat → Bool

/-- Whether the busy line reads 1 (R201), in the same way. -/
opaque Config.busyAnswer : Nat → Bool

/-- What a read of a register that holds no value yields, by the register's number (R25, R40, U21). -/
opaque Config.unwrittenRegister : Nat → Half

/-- What a read of a byte that holds no value yields, by the number of its space and its address (R40, U21). -/
opaque Config.unwrittenByte : Nat → Nat → Byte

/-- The panel controller's own registers before the PDC writes them, from power-on and again from each reset pulse: "any
value" (R261, U16), by the number of pulses so far and the number of the register. -/
opaque Config.panelUnknown : Nat → Nat → Nat

end Sys2Proof
end

