-- ==== Sys2Proof/Syntax.lean ====
section
/-! DEFINITION. Syntax.lean: the instruction set, one constructor for each row of spec/opcode_table.json.
It "has two layers" (spec/00_scope.md R2): the eleven host operations (spec/30_encoding.md R92), then the fifteen panel
commands (R100). A panel command whose payload a rule or the configuration fixes has no operand; the others carry the
payload the sending operation computes (R102). -/

namespace Sys2Proof

/-- The instructions of the two layers. -/
inductive Instr where
  -- host operations, R92
  | init
  | sendCommand (c : Byte)
  | sendData (n : Half)
  | waitIdle
  | setWindow (xStart yStart xEnd yEnd : Half)
  | setCursor (x y : Half)
  | turnOnDisplay
  | display (imgw imgh : Half) (present : Bool)
  | clear (f : Byte)
  | close
  | pack (imgw imgh : Half)
  -- panel commands, R100
  | cmdDriverOutput
  | cmdBoosterSoftStart
  | cmdWriteVcom
  | cmdDummyLinePeriod
  | cmdGateLineWidth
  | cmdDataEntryMode
  | cmdWriteLut
  | cmdSetRamXRange (colStart colEnd : Byte)
  | cmdSetRamYRange (yStart yEnd : Half)
  | cmdSetRamXCounter (column : Byte)
  | cmdSetRamYCounter (y : Half)
  | cmdWriteRam (row : List Byte)
  | cmdDisplayUpdate2
  | cmdMasterActivation
  | cmdTerminateFrame
deriving DecidableEq, Repr

end Sys2Proof
end

