-- ==== Sys2Proof/WellFormed.lean ====
section
/-! DEFINITION. WellFormed.lean: which terms of Instr stand for an instruction of the hardware.
Every host operation does, at every operand: an operand that acceptance turns away (R97) is still an encoded operand. -/

namespace Sys2Proof

/-- Every field of Instr has the width of its operand in R91 and R35 but one: the payload of `CMD_WRITE_RAM` is "the
bytes of one panel row, `WB` bytes" (spec/44_display_clear_busy.md R205). -/
def Instr.wf (c : Config) : Instr → Bool
  | .init => true
  | .sendCommand _ => true
  | .sendData _ => true
  | .waitIdle => true
  | .setWindow _ _ _ _ => true
  | .setCursor _ _ => true
  | .turnOnDisplay => true
  | .display _ _ _ => true
  | .clear _ => true
  | .close => true
  | .pack _ _ => true
  | .cmdDriverOutput => true
  | .cmdBoosterSoftStart => true
  | .cmdWriteVcom => true
  | .cmdDummyLinePeriod => true
  | .cmdGateLineWidth => true
  | .cmdDataEntryMode => true
  | .cmdWriteLut => true
  | .cmdSetRamXRange _ _ => true
  | .cmdSetRamYRange _ _ => true
  | .cmdSetRamXCounter _ => true
  | .cmdSetRamYCounter _ => true
  | .cmdWriteRam row => row.length == c.wb
  | .cmdDisplayUpdate2 => true
  | .cmdMasterActivation => true
  | .cmdTerminateFrame => true

end Sys2Proof
end

