-- ==== Sys2Proof/Decode.lean ====
section
/-! DEFINITION. Decode.lean: from stored words to instructions and back, at the two encoded interfaces of
spec/30_encoding.md R90. Decoding is total; what is no instruction is rejected by name. -/

namespace Sys2Proof

/-! ## Fields -/

/-- `lo8(v) = v & 0xFF` (R102). -/
def lo8 (v : Half) : Byte := v.setWidth 8

/-- `hi8(v) = (v >> 8) & 0xFF` (R102). -/
def hi8 (v : Half) : Byte := (v >>> 8).setWidth 8

/-- The 16-bit value whose little-endian bytes are `lo`, `hi` (R15, R67). -/
def ofLeBytes (lo hi : Byte) : Half := hi ++ lo

namespace Request

/-- `req[7:0]` (R91). -/
def op (w : Request) : Byte := w.extractLsb' 0 8

/-- `req[23:8]` (R91). -/
def a0 (w : Request) : Half := w.extractLsb' 8 16

/-- `req[39:24]` (R91). -/
def a1 (w : Request) : Half := w.extractLsb' 24 16

/-- `req[55:40]` (R91). -/
def a2 (w : Request) : Half := w.extractLsb' 40 16

/-- `req[71:56]` (R91). -/
def a3 (w : Request) : Half := w.extractLsb' 56 16

/-- The request word with these fields (R91). -/
def make (op : Byte) (a0 a1 a2 a3 : Half) : Request :=
  op.setWidth 72 ||| (a0.setWidth 72 <<< 8) ||| (a1.setWidth 72 <<< 24) ||| (a2.setWidth 72 <<< 40) |||
    (a3.setWidth 72 <<< 56)

end Request

/-! ## Decoding -/

/-- Why a stored word is no instruction. -/
inductive DecodeError where
  /-- A host request whose `op` R92 does not list: reserved (R94). -/
  | reservedOp (op : Byte)
  /-- A panel command of no bytes. -/
  | emptyCommand
  /-- A command code outside the fifteen of R100. -/
  | unknownCommand (code : Byte)
  /-- A panel command with fewer operand bytes than its payload has (R100). -/
  | missingOperands (code : Byte)
deriving DecidableEq, Repr

/-- The decoder of host requests (R92, R93). It "needs only `req[7:0]` to identify the operation"; operand bits the
format does not name "have no effect and are not checked" (R96). -/
def decodeRequest (w : Request) : Except DecodeError Instr :=
  match (Request.op w).toNat with
  | 0x01 => .ok .init
  | 0x02 => .ok (.sendCommand (lo8 (Request.a0 w)))
  | 0x03 => .ok (.sendData (Request.a0 w))
  | 0x04 => .ok .waitIdle
  | 0x05 => .ok (.setWindow (Request.a0 w) (Request.a1 w) (Request.a2 w) (Request.a3 w))
  | 0x06 => .ok (.setCursor (Request.a0 w) (Request.a1 w))
  | 0x07 => .ok .turnOnDisplay
  | 0x08 => .ok (.display (Request.a0 w) (Request.a1 w) ((Request.a2 w).getLsbD 0))
  | 0x09 => .ok (.clear (lo8 (Request.a0 w)))
  | 0x0A => .ok .close
  | 0x0B => .ok (.pack (Request.a0 w) (Request.a1 w))
  | _ => .error (.reservedOp (Request.op w))

/-- The decoder of panel commands: the code of the command frame says which command it is (R65, R100, R101), and "the
panel controller ... knows each command's payload length by itself" (R101), so a command takes as many operand bytes as
its payload has, multi-byte values little-endian (R67), and no more. -/
def decodeCommand (c : Config) : List Byte → Except DecodeError Instr
  | [] => .error .emptyCommand
  | code :: ops =>
    if code = c.codes.driverOutput then .ok .cmdDriverOutput
    else if code = c.codes.boosterSoftStart then .ok .cmdBoosterSoftStart
    else if code = c.codes.writeVcom then .ok .cmdWriteVcom
    else if code = c.codes.dummyLinePeriod then .ok .cmdDummyLinePeriod
    else if code = c.codes.gateLineWidth then .ok .cmdGateLineWidth
    else if code = c.codes.dataEntryMode then .ok .cmdDataEntryMode
    else if code = c.codes.writeLut then .ok .cmdWriteLut
    else if code = c.codes.setRamXRange then
      match ops with
      | a :: b :: _ => .ok (.cmdSetRamXRange a b)
      | _ => .error (.missingOperands code)
    else if code = c.codes.setRamYRange then
      match ops with
      | a0 :: a1 :: b0 :: b1 :: _ => .ok (.cmdSetRamYRange (ofLeBytes a0 a1) (ofLeBytes b0 b1))
      | _ => .error (.missingOperands code)
    else if code = c.codes.setRamXCounter then
      match ops with
      | a :: _ => .ok (.cmdSetRamXCounter a)
      | _ => .error (.missingOperands code)
    else if code = c.codes.setRamYCounter then
      match ops with
      | a0 :: a1 :: _ => .ok (.cmdSetRamYCounter (ofLeBytes a0 a1))
      | _ => .error (.missingOperands code)
    else if code = c.codes.writeRam then
      if c.wb ≤ ops.length then .ok (.cmdWriteRam (ops.take c.wb)) else .error (.missingOperands code)
    else if code = c.codes.displayUpdate2 then .ok .cmdDisplayUpdate2
    else if code = c.codes.masterActivation then .ok .cmdMasterActivation
    else if code = c.codes.terminateFrame then .ok .cmdTerminateFrame
    else .error (.unknownCommand code)

/-- The decoder of both interfaces (R90). -/
def decode (c : Config) : CodeWord → Except DecodeError Instr
  | .request w => decodeRequest w
  | .command bytes => decodeCommand c bytes

/-! ## Encoding -/

/-- The word of an instruction. Host requests are laid out by R91 to R93, bits no format names zero; a panel command is
its code (R100) and its operand bytes (R35, R67). -/
def encode (c : Config) : Instr → CodeWord
  | .init => .request (Request.make 0x01 0 0 0 0)
  | .sendCommand b => .request (Request.make 0x02 (b.setWidth 16) 0 0 0)
  | .sendData n => .request (Request.make 0x03 n 0 0 0)
  | .waitIdle => .request (Request.make 0x04 0 0 0 0)
  | .setWindow xs ys xe ye => .request (Request.make 0x05 xs ys xe ye)
  | .setCursor x y => .request (Request.make 0x06 x y 0 0)
  | .turnOnDisplay => .request (Request.make 0x07 0 0 0 0)
  | .display w h present => .request (Request.make 0x08 w h (if present then 1 else 0) 0)
  | .clear f => .request (Request.make 0x09 (f.setWidth 16) 0 0 0)
  | .close => .request (Request.make 0x0A 0 0 0 0)
  | .pack w h => .request (Request.make 0x0B w h 0 0)
  | .cmdDriverOutput => .command [c.codes.driverOutput]
  | .cmdBoosterSoftStart => .command [c.codes.boosterSoftStart]
  | .cmdWriteVcom => .command [c.codes.writeVcom]
  | .cmdDummyLinePeriod => .command [c.codes.dummyLinePeriod]
  | .cmdGateLineWidth => .command [c.codes.gateLineWidth]
  | .cmdDataEntryMode => .command [c.codes.dataEntryMode]
  | .cmdWriteLut => .command [c.codes.writeLut]
  | .cmdSetRamXRange a b => .command [c.codes.setRamXRange, a, b]
  | .cmdSetRamYRange ys ye => .command [c.codes.setRamYRange, lo8 ys, hi8 ys, lo8 ye, hi8 ye]
  | .cmdSetRamXCounter a => .command [c.codes.setRamXCounter, a]
  | .cmdSetRamYCounter y => .command [c.codes.setRamYCounter, lo8 y, hi8 y]
  | .cmdWriteRam row => .command (c.codes.writeRam :: row)
  | .cmdDisplayUpdate2 => .command [c.codes.displayUpdate2]
  | .cmdMasterActivation => .command [c.codes.masterActivation]
  | .cmdTerminateFrame => .command [c.codes.terminateFrame]

/-! ## Table words -/

/-- The low `n` bytes of a number, least significant first. -/
def lowBytes : Nat → Nat → List Byte
  | 0, _ => []
  | n + 1, w => BitVec.ofNat 8 w :: lowBytes n (w / 256)

/-- The stored word of a row of spec/opcode_table.json whose bits are `w`: a row of 72 bits is a host request, a
shorter row is a panel command whose further operand bytes, as many as the longest operands of `c` have, are zero. -/
def tableWord (c : Config) (nbits w : Nat) : CodeWord :=
  if nbits = 72 then .request (BitVec.ofNat 72 w)
  else .command (lowBytes (nbits / 8) w ++ List.replicate (max 4 c.wb) 0)

/-- The instruction the decoder reads from a table row's word, under the reference configuration. -/
def decodeTableWord (nbits w : Nat) : Option Instr :=
  (decode Config.reference (tableWord Config.reference nbits w)).toOption

end Sys2Proof
end

