-- ==== Sys2Proof/Machine/State.lean ====
section
/-! DEFINITION. Machine/State.lean: the state of the PDC (spec/10_state.md), its agents' inputs, and the reasons a step
can stop. -/

namespace Sys2Proof.Machine

/-! ## The parts of the state -/

/-- The initialization state `PHASE` (R29). -/
inductive Phase where
  | unpowered
  | resetting
  | configuringRegisters
  | ready
deriving DecidableEq, Repr

/-- The 2-bit encoding of `PHASE` (R29). -/
def Phase.code : Phase → BitVec 2
  | .unpowered => 0
  | .resetting => 1
  | .configuringRegisters => 2
  | .ready => 3

/-- `CAUSE` (R31, R231). -/
inductive Cause where
  | none
  | setupFailure
  | transportAbort
  | controllerUnresponsive
deriving DecidableEq, Repr

/-- The 2-bit encoding of `CAUSE` (R231). -/
def Cause.code : Cause → BitVec 2
  | .none => 0
  | .setupFailure => 1
  | .transportAbort => 2
  | .controllerUnresponsive => 3

/-- The sticky flags `FLAGS` (R30). -/
structure Flags where
  nullImage   : Bool
  dimMismatch : Bool
  illegalReq  : Bool
  notReady    : Bool
deriving DecidableEq, Repr

/-- The names of the four flags (R30). -/
inductive Flag where
  | nullImage
  | dimMismatch
  | illegalReq
  | notReady
deriving DecidableEq, Repr

/-- A line latch: "the level last driven ..., 0, 1, or `undriven`" (R32). -/
inductive Latch where
  | undriven
  | driven (l : Level)
deriving DecidableEq, Repr

/-- A data register. The spec gives each of them "no value" after power-on (R40) and says that "a model should give an
unwritten register no value rather than zero" (R25): `noValue` is the spec's own state of the register. -/
inductive Held (α : Type) where
  | noValue
  | value (v : α)
deriving DecidableEq, Repr

/-- `ORIENT` (R24); "3 never occurs". -/
inductive Orient where
  | none
  | aligned
  | rotated
deriving DecidableEq, Repr

/-- The 2-bit encoding of `ORIENT` (R24). -/
def Orient.code : Orient → BitVec 2
  | .none => 0
  | .aligned => 1
  | .rotated => 2

/-- The address spaces the PDC reads or writes (R37, R60). -/
inductive Space where
  | buf
  | img
  | pay
  | rom
deriving DecidableEq, Repr

/-- The number that names a space to `Config.unwrittenByte`. -/
def Space.number : Space → Nat
  | .buf => 0
  | .img => 1
  | .pay => 2
  | .rom => 3

/-- The contents of an address space, as the bytes that hold a value: addresses strictly rising. An address that is not
listed reads as "no value" (R40). -/
abbrev Memory := List Host.Cell

/-- The transport events (R17). `busy l` is `BUSY?(l)`. -/
inductive Event where
  | open (ok : Bool)
  | close
  | rst (l : Level)
  | dc (l : Level)
  | cs (l : Level)
  | wr (bytes : List Byte)
  | sleep (ms : Nat)
  | busy (l : Level)
deriving DecidableEq, Repr

/-- The micro-operations, a closed list (R110). -/
inductive MicroOp where
  | uOpen
  | uClose
  | uRst (l : Level)
  | uDc (l : Level)
  | uCs (l : Level)
  | uWrImm (bytes : List Byte)
  | uWrRow (j : Nat)
  | uWrFill (n : Nat)
  | uWrPay (n : Nat)
  | uSleep (ms : Nat)
  | uPhase (p : Phase)
  | uSetWin (xs ys xe ye : Half)
  | uSetCur (x y : Half)
  | uPack
  | uPoll
deriving DecidableEq, Repr

/-- What the host does while the PDC is idle, one move a step: it presents an instruction (R95), or fills its own
memories `PAY` and `IMG` (the directives `.pay` and `.img` of R112, allowed only then by R84). -/
inductive HostMove where
  | present (w : CodeWord)
  | writePay (bytes : List Byte)
  | writeImg (bytes : List Byte)
deriving DecidableEq, Repr

/-- The environment's answers to one of the three questions it is asked (R20): the next answers in order, and what every
later answer is, or `none` where nothing says so and each is a free value. -/
structure Answers where
  script : List Bool
  rest   : Option Bool
deriving DecidableEq, Repr

/-! ## The reasons a step can stop -/

/-- What stops the machine. -/
inductive Fault where
  /-- Raised by every step of a halted PDC, under the cause that halted it: "When `HALT = 1` nobody has a step" (R28,
  R236). Safe: the machine has stopped. -/
  | halted (c : Cause)
  /-- Raised by an access to an address its space does not have: a host's write of `PAY` past `PAY_SIZE`, and a
  micro-operation whose operand no expansion gives it, since the PDC's own "addresses are in range by construction"
  (R223). Safe: the machine stops. -/
  | noSuchAddress (sp : Space) (addr : Nat)
deriving DecidableEq, Repr

/-- What the model has no step for. -/
inductive Refusal where
  /-- Raised by an arm of exec whose instruction has no meaning in the model. Safe. No arm raises it. -/
  | notModelled (mnemonic : String)
  /-- Raised by every step of a state whose configuration is no instance of the PDC: "the model refuses to build it"
  (R6). Safe. -/
  | notAnInstance
  /-- Raised by exec of an instruction in a state in which the host may present none: "The model gives the host no such
  move" (R95, U13). Safe. No step raises it: a step presents an instruction only when the PDC is idle. -/
  | notIdle
deriving DecidableEq, Repr

/-! ## The state -/

/-- Everything the spec gives the PDC, and the inputs of the host and the environment. -/
structure State where
  /-- The implementation parameters, with `WIDTH`, `HEIGHT` (R21) and `ROM` (R64); no step changes them. -/
  cfg       : Config
  /-- `PHASE` (R29). -/
  phase     : Phase
  /-- `HALT` (R31). -/
  halt      : Bool
  /-- `CAUSE` (R31). -/
  cause     : Cause
  /-- `FLAGS` (R30). -/
  flags     : Flags
  /-- `SEQ`, the micro-operations still to perform, head first (R26). -/
  seq       : List MicroOp
  /-- `POLLS` (R27). -/
  polls     : Nat
  /-- `RST`, the latch of the reset line (R32). -/
  rst       : Latch
  /-- `DC`, the latch of the data/command-select line (R32). -/
  dc        : Latch
  /-- `CS`, the latch of the chip-select line (R32). -/
  cs        : Latch
  /-- `XS`, `XE`, `YS`, `YE`, the window operands as given (R22). -/
  xs        : Held Half
  xe        : Held Half
  ys        : Held Half
  ye        : Held Half
  /-- `CX`, `CY`, the cursor operands as given (R23). -/
  cx        : Held Half
  cy        : Held Half
  /-- `FILL` (R24). -/
  fill      : Held Byte
  /-- `IMGW`, `IMGH` (R24). -/
  imgw      : Held Half
  imgh      : Held Half
  /-- `PLEN` (R24). -/
  plen      : Held Half
  /-- `ORIENT` (R24). -/
  orient    : Held Orient
  /-- `BUF`, the device buffer (R61). -/
  buf       : Memory
  /-- `IMG`, the source image, the host's (R62). -/
  img       : Memory
  /-- `PAY`, the host payload, the host's (R63). -/
  pay       : Memory
  /-- `TRACE`, the transport events since power-on, in order (R39). -/
  trace     : List Event
  /-- The host's moves still to come, in order (R20; the model's own). -/
  host      : List HostMove
  /-- The environment's answers still to come: whether `open()` succeeds, whether a write aborts, whether the busy line
  reads 1 (R20; the model's own). -/
  openAns   : Answers
  abortAns  : Answers
  busyAns   : Answers
  /-- How many answers the environment has given; free answers depend on it (the model's own). -/
  draws     : Nat
deriving DecidableEq, Repr

/-- Answers of which nothing is known. -/
def Answers.free : Answers := { script := [], rest := none }

/-- The state after power-on of a PDC of configuration `c` (R40, R260). -/
def State.powerOn (c : Config) : State where
  cfg      := c
  phase    := .unpowered
  halt     := false
  cause    := .none
  flags    := { nullImage := false, dimMismatch := false, illegalReq := false, notReady := false }
  seq      := []
  polls    := 0
  rst      := .undriven
  dc       := .undriven
  cs       := .undriven
  xs       := .noValue
  xe       := .noValue
  ys       := .noValue
  ye       := .noValue
  cx       := .noValue
  cy       := .noValue
  fill     := .noValue
  imgw     := .noValue
  imgh     := .noValue
  plen     := .noValue
  orient   := .noValue
  buf      := []
  img      := []
  pay      := []
  trace    := []
  host     := []
  openAns  := .free
  abortAns := .free
  busyAns  := .free
  draws    := 0

/-- The machine right after reset: power-on of the reference instance (R40, R7; log entry 2). -/
def State.reset : State := State.powerOn Config.reference

/-- The PDC is idle: `SEQ = []` and `HALT = 0`, the `IDLE` bit of `STAT` (R26, R33). -/
def State.idle (s : State) : Bool := s.seq.isEmpty && !s.halt

end Sys2Proof.Machine
end

