-- ==== Sys2Proof/Machine/Flags.lean ====
section
/-! DEFINITION. Machine/Flags.lean: the sticky flags and the status the host reads (spec/10_state.md R30, R33). -/

namespace Sys2Proof.Machine

/-- `flag F` sets a sticky flag (R18, R30). -/
def State.setFlag (f : Flag) (s : State) : State :=
  { s with flags := match f with
      | .nullImage => { s.flags with nullImage := true }
      | .dimMismatch => { s.flags with dimMismatch := true }
      | .illegalReq => { s.flags with illegalReq := true }
      | .notReady => { s.flags with notReady := true } }

/-- A field of a register: the bits of `v`, its bit 0 at bit `lo`. -/
def fieldAt {n : Nat} (w lo : Nat) (v : BitVec n) : BitVec w := v.setWidth w <<< lo

/-- `FLAGS` as four bits: bit 0 `NULL_IMAGE`, 1 `DIM_MISMATCH`, 2 `ILLEGAL_REQ`, 3 `NOT_READY` (R30). -/
def Flags.bits (f : Flags) : BitVec 4 :=
  fieldAt 4 0 (BitVec.ofBool f.nullImage) ||| fieldAt 4 1 (BitVec.ofBool f.dimMismatch) |||
    fieldAt 4 2 (BitVec.ofBool f.illegalReq) ||| fieldAt 4 3 (BitVec.ofBool f.notReady)

/-- `ORIENT` in `STAT[13:12]`, which "reads 0 until the first `uPACK`" (R33). -/
def State.orientBits (s : State) : BitVec 2 :=
  match s.orient with
  | .noValue => 0
  | .value o => o.code

/-- `STAT`, "a 16-bit read-only view the host may read at any time. It is not separate state": `PHASE` in bits 1:0,
`IDLE` 2, `HALT` 3, `CAUSE` 5:4, `FLAGS` 11:8, `ORIENT` 13:12, the reserved bits 0 (R33). -/
def State.stat (s : State) : BitVec 16 :=
  fieldAt 16 0 s.phase.code ||| fieldAt 16 2 (BitVec.ofBool s.idle) ||| fieldAt 16 3 (BitVec.ofBool s.halt) |||
    fieldAt 16 4 s.cause.code ||| fieldAt 16 8 s.flags.bits ||| fieldAt 16 12 s.orientBits

end Sys2Proof.Machine
end

