-- ==== Sys2Proof/Machine/Ops.lean ====
section
/-! DEFINITION. Machine/Ops.lean: the operations every meaning is made of: memories, transport events, the
environment's answers, reading registers, faults, and the acceptance of an instruction. -/

namespace Sys2Proof.Machine

/-! ## Memories -/

/-- The canonical form: addresses strictly rise. -/
abbrev Memory.wf (m : Memory) : Prop := List.Pairwise (fun x y => x.1 < y.1) m

/-- What address `a` holds: the listed byte, or nothing, which is what an unlisted address holds (R40). -/
def Memory.read : Memory → Nat → Option Byte
  | [], _ => none
  | (k, v) :: m, a => if k = a then some v else Memory.read m a

/-- `MemWrite(space, a, 1, b)` (R16). -/
def Memory.write : Memory → Nat → Byte → Memory
  | [], a, b => [(a, b)]
  | (k, v) :: m, a, b =>
    if a < k then (a, b) :: (k, v) :: m
    else if a = k then (a, b) :: m
    else (k, v) :: Memory.write m a b

/-- Writes a sequence of bytes at ascending addresses from `a`. -/
def Memory.writeBytes : Memory → Nat → List Byte → Memory
  | m, _, [] => m
  | m, a, b :: bs => Memory.writeBytes (Memory.write m a b) (a + 1) bs

/-- The memory whose bytes `0 .. n-1` are `b`. -/
def Memory.filled (n : Nat) (b : Byte) : Memory := (List.range n).map fun i => (i, b)

/-- The contents of a space (R37). `ROM` is the configuration's (R64). -/
def State.mem (s : State) : Space → Memory
  | .buf => s.buf
  | .img => s.img
  | .pay => s.pay
  | .rom => (List.range s.cfg.rom.length).zip s.cfg.rom

/-- One byte of a space. A byte that holds no value reads as a free value (log entry 6). -/
def State.byteAt (s : State) (sp : Space) (a : Nat) : Byte :=
  (Memory.read (s.mem sp) a).getD (Config.unwrittenByte sp.number a)

/-- `MemRead(space, a, n)`: `n` bytes in ascending order (R16). -/
def State.bytesAt (s : State) (sp : Space) (a n : Nat) : List Byte :=
  (List.range n).map fun i => s.byteAt sp (a + i)

/-! ## Registers -/

/-- What a register holds; `free` where it holds no value (log entry 6). -/
def Held.get {α : Type} (r : Held α) (free : α) : α :=
  match r with
  | .noValue => free
  | .value v => v

/-- `IMGW` as `uPACK` reads it (R24). -/
def State.imgwVal (s : State) : Nat := (s.imgw.get (Config.unwrittenRegister 0)).toNat

/-- `IMGH` as `uPACK` reads it (R24). -/
def State.imghVal (s : State) : Nat := (s.imgh.get (Config.unwrittenRegister 1)).toNat

/-- `FILL` as `uWR_FILL` reads it (R24). -/
def State.fillVal (s : State) : Byte := s.fill.get ((Config.unwrittenRegister 2).setWidth 8)

/-! ## The size of a space -/

/-- The size of a space in bytes (R60). -/
def State.sizeOf (s : State) : Space → Nat
  | .buf => s.cfg.buflen
  | .img => s.imgwVal * s.imghVal
  | .pay => s.cfg.paySize
  | .rom => s.cfg.rom.length

/-! ## Transport events -/

/-- `emit E` appends event `E` to the trace (R17). -/
def State.emit (e : Event) (s : State) : State := { s with trace := s.trace ++ [e] }

/-! ## The environment's answers -/

/-- The answer given now, `free` where nothing says what it is (R18). -/
def Answers.now (a : Answers) (free : Bool) : Bool :=
  match a.script, a.rest with
  | b :: _, _ => b
  | [], some b => b
  | [], none => free

/-- The answers left when one has been given. -/
def Answers.later (a : Answers) : Answers := { a with script := a.script.tail }

/-- The environment's answer to `open()`, were it asked now (R150). -/
def State.opensNow (s : State) : Bool := s.openAns.now (Config.openAnswer s.draws)

/-- Whether the environment aborts a write, were one made now (R155). -/
def State.abortsNow (s : State) : Bool := s.abortAns.now (Config.abortAnswer s.draws)

/-- Whether the busy line reads 1, were it sampled now (R201). -/
def State.busyNow (s : State) : Bool := s.busyAns.now (Config.busyAnswer s.draws)

/-- The state when the environment has answered `open()`. -/
def State.drawnOpen (s : State) : State := { s with openAns := s.openAns.later, draws := s.draws + 1 }

/-- The state when the environment has answered a write. -/
def State.drawnAbort (s : State) : State := { s with abortAns := s.abortAns.later, draws := s.draws + 1 }

/-- The state when the environment has answered a sample of the busy line. -/
def State.drawnBusy (s : State) : State := { s with busyAns := s.busyAns.later, draws := s.draws + 1 }

/-! ## Faults -/

/-- `raise Fault(c)`: "`HALT <- 1; CAUSE <- c; SEQ <- []`. Nothing else changes" (R236). There is no handler and no
return: "There is no return from a fault and hence no nesting. The only way out of `Halted` is power-on" (R240), which
is State.powerOn. -/
def State.raise (c : Cause) (s : State) : State := { s with halt := true, cause := c, seq := [] }

/-! ## Acceptance -/

/-- The part of acceptance every instruction shares. The host may present one only when the PDC is idle (R95); "if op =
INIT and PHASE != Unpowered: flag NOT_READY; stop; if op != INIT and PHASE != Ready: flag NOT_READY; stop" (R97 check
2). -/
def accept (need : Phase) (s : State) (go : State → Host.Outcome State Fault Refusal) :
    Host.Outcome State Fault Refusal :=
  if s.idle then
    if s.phase = need then go s else .next (s.setFlag .notReady)
  else .refused .notIdle

/-- `POLLS <- 0; SEQ <- expansion` (R97 step 5). -/
def State.load (ops : List MicroOp) (s : State) : State := { s with polls := 0, seq := ops }

end Sys2Proof.Machine
end

