-- ==== Sys2Proof/Machine/Operands.lean ====
section
/-! DEFINITION. Machine/Operands.lean: the payloads the PDC sends (spec/30_encoding.md R102) and the frames they go in
(spec/41_framing.md R162, R163). -/

namespace Sys2Proof.Machine

/-! ## Computed operands -/

/-- `col(x) = (x >> 3) & 0xFF`, the column byte of an x coordinate (R69, R102). -/
def col (x : Half) : Byte := (x >>> 3).setWidth 8

/-- `HEIGHT - 1` as a 16-bit value (R136, R220). -/
def lastRow (c : Config) : Half := BitVec.ofNat 16 (c.height - 1)

/-- `WIDTH - 1` as a 16-bit value (R192, R220). -/
def lastColumn (c : Config) : Half := BitVec.ofNat 16 (c.width - 1)

/-! ## Payloads -/

/-- `[lo8(HEIGHT-1) hi8(HEIGHT-1) 0x00]` (R136). -/
def payloadDriverOutput (c : Config) : List Byte := [lo8 (lastRow c), hi8 (lastRow c), 0x00]

/-- `[0xD7 0xD6 0x9D]` (R137). -/
def payloadBoosterSoftStart : List Byte := [0xD7, 0xD6, 0x9D]

/-- `[0xA8]` (R138). -/
def payloadWriteVcom : List Byte := [0xA8]

/-- `[0x1A]` (R139). -/
def payloadDummyLinePeriod : List Byte := [0x1A]

/-- `[0x08]` (R140). -/
def payloadGateLineWidth : List Byte := [0x08]

/-- `[0x03]`, "X then Y increment" (R141). -/
def payloadDataEntryMode : List Byte := [0x03]

/-- "the 30 bytes of the selected table in ascending `ROM` order" (R142). -/
def payloadWriteLut (c : Config) : List Byte := c.lut

/-- `[col(xStart) col(xEnd)]`, from the column bytes (R185). -/
def payloadSetRamXRange (colStart colEnd : Byte) : List Byte := [colStart, colEnd]

/-- `[lo8(yStart) hi8(yStart) lo8(yEnd) hi8(yEnd)]` (R186). -/
def payloadSetRamYRange (yStart yEnd : Half) : List Byte := [lo8 yStart, hi8 yStart, lo8 yEnd, hi8 yEnd]

/-- `[col(x)]`, from the column byte (R188). -/
def payloadSetRamXCounter (column : Byte) : List Byte := [column]

/-- `[lo8(y) hi8(y)]` (R189). -/
def payloadSetRamYCounter (y : Half) : List Byte := [lo8 y, hi8 y]

/-- `[ACT_FLAGS]` (R206). -/
def payloadDisplayUpdate2 (c : Config) : List Byte := [c.actFlags]

/-! ## Frames -/

/-- A frame around the one write `w`: data/command-select, chip-select low, the write, chip-select high (R162). -/
def frame (select : Level) (w : MicroOp) : List MicroOp := [.uDc select, .uCs .low, w, .uCs .high]

/-- `frameC(c)`, the command frame: data/command-select low, exactly one byte (R162). -/
def frameC (c : Byte) : List MicroOp := frame .low (.uWrImm [c])

/-- `frameD(bytes)`, the data frame: data/command-select high (R162). -/
def frameD (bytes : List Byte) : List MicroOp := frame .high (.uWrImm bytes)

/-- `payload(bytes)`: one data frame, or one data frame per byte when `FRAME_PER_BYTE` (R163). -/
def payload (c : Config) (bytes : List Byte) : List MicroOp :=
  if c.framePerByte then bytes.flatMap fun b => frameD [b] else frameD bytes

/-- `cmd(c, bytes)`: the command frame, and the payload where there is one (R163). -/
def cmd (c : Config) (code : Byte) (bytes : List Byte) : List MicroOp :=
  match bytes with
  | [] => frameC code
  | _ :: _ => frameC code ++ payload c bytes

end Sys2Proof.Machine
end

