-- ==== Sys2Proof/Machine/Packing.lean ====
section
/-! DEFINITION. Machine/Packing.lean: `PACK` and the packing of the source image into the device buffer
(spec/42_packing.md). -/

namespace Sys2Proof.Machine

/-- The orientation `uPACK` chooses: aligned first (R171, R178), then rotated (R172), else none (R174). -/
def orientation (c : Config) (imgw imgh : Nat) : Orient :=
  if imgw = c.width ∧ imgh = c.height then .aligned
  else if imgw = c.height ∧ imgh = c.width then .rotated
  else .none

/-- The panel pixel of source pixel `(x, y)`: `(x, y)` when aligned (R171), `(y, HEIGHT - x - 1)` when rotated
(R172). -/
def panelPixel (c : Config) (o : Orient) (x y : Nat) : Nat × Nat :=
  match o with
  | .rotated => (y, c.height - x - 1)
  | .aligned | .none => (x, y)

/-- The number of panel pixel `(px, py)`'s bit in `BUF`: `px + py * WIDTH` (R61). -/
def pixelBit (c : Config) (p : Nat × Nat) : Nat := p.1 + p.2 * c.width

/-- "the mask of pixel `k` ... is `0x80 >> k`" (R14, R61). -/
def pixelMask (k : Nat) : Byte := (0x80 : Byte) >>> k

/-- `IMG(x, y) = MemRead(IMG, y * IMGW + x, 1)` (R62). -/
def State.luma (s : State) (x y : Nat) : Byte := s.byteAt .img (y * s.imgwVal + x)

/-- Clears bit `k` of the buffer: `BUF[k / 8] & ~(0x80 >> (k mod 8))` (R173). -/
def clearBit (buf : Memory) (k : Nat) : Memory :=
  Memory.write buf (k / 8)
    ((Memory.read buf (k / 8)).getD (Config.unwrittenByte Space.buf.number (k / 8)) &&& ~~~(pixelMask (k % 8)))

/-- One turn of the pixel loop: "zero luma: black" clears the pixel's bit (R173). -/
def packPixel (s : State) (o : Orient) (y : Nat) (buf : Memory) (x : Nat) : Memory :=
  if s.luma x y = 0 then clearBit buf (pixelBit s.cfg (panelPixel s.cfg o x y)) else buf

/-- The pixel loop of one source row (R173). -/
def packRow (s : State) (o : Orient) (buf : Memory) (y : Nat) : Memory :=
  (List.range s.imgwVal).foldl (packPixel s o y) buf

/-- What `uPACK` leaves in `BUF`: all `0xFF`, then, unless the orientation is none, every black pixel's bit cleared,
rows outermost (R173, R179). -/
def packed (s : State) (o : Orient) : Memory :=
  match o with
  | .none => Memory.filled s.cfg.buflen 0xFF
  | .aligned | .rotated => (List.range s.imghVal).foldl (packRow s o) (Memory.filled s.cfg.buflen 0xFF)

/-- `uPACK`: "One step, no event, no fault" (R173); `DIM_MISMATCH` when neither orientation holds (R174). -/
def State.packImage (s : State) : State :=
  let o := orientation s.cfg s.imgwVal s.imghVal
  let t := { s with buf := packed s o, orient := .value o }
  match o with
  | .none => t.setFlag .dimMismatch
  | .aligned | .rotated => t

/-- The expansion of `PACK` (R170). -/
def opsPack : List MicroOp := [.uPack]

/-- `PACK imgw, imgh`: "Acceptance writes `IMGW <- imgw; IMGH <- imgh`" (R170). -/
def execPack (imgw imgh : Half) (s : State) : Host.Outcome State Fault Refusal :=
  accept .ready s fun s => .next ({ s with imgw := .value imgw, imgh := .value imgh }.load opsPack)

end Sys2Proof.Machine
end

