-- ==== Sys2Proof/Machine/Init.lean ====
section
/-! DEFINITION. Machine/Init.lean: `INIT`, `CLOSE` and the seven configuration commands (spec/40_init_reset.md). -/

namespace Sys2Proof.Machine

/-! ## The configuration commands as the sequencer sends them -/

/-- `CMD_DRIVER_OUTPUT` (R136). -/
def opsDriverOutput (c : Config) : List MicroOp := cmd c c.codes.driverOutput (payloadDriverOutput c)

/-- `CMD_BOOSTER_SOFT_START` (R137). -/
def opsBoosterSoftStart (c : Config) : List MicroOp := cmd c c.codes.boosterSoftStart payloadBoosterSoftStart

/-- `CMD_WRITE_VCOM` (R138). -/
def opsWriteVcom (c : Config) : List MicroOp := cmd c c.codes.writeVcom payloadWriteVcom

/-- `CMD_DUMMY_LINE_PERIOD` (R139). -/
def opsDummyLinePeriod (c : Config) : List MicroOp := cmd c c.codes.dummyLinePeriod payloadDummyLinePeriod

/-- `CMD_GATE_LINE_WIDTH` (R140). -/
def opsGateLineWidth (c : Config) : List MicroOp := cmd c c.codes.gateLineWidth payloadGateLineWidth

/-- `CMD_DATA_ENTRY_MODE` (R141). -/
def opsDataEntryMode (c : Config) : List MicroOp := cmd c c.codes.dataEntryMode payloadDataEntryMode

/-- `CMD_WRITE_LUT` (R142). -/
def opsWriteLut (c : Config) : List MicroOp := cmd c c.codes.writeLut (payloadWriteLut c)

/-! ## Sub-sequences -/

/-- `RESET_PULSE` (R131). -/
def opsResetPulse (c : Config) : List MicroOp :=
  [.uRst .high, .uSleep c.tRstPre, .uRst .low, .uSleep c.tRstLow, .uRst .high, .uSleep c.tRstPost]

/-- `CONFIGURE`: the seven commands "in this exact order" (R133). -/
def opsConfigure (c : Config) : List MicroOp :=
  opsDriverOutput c ++ opsBoosterSoftStart c ++ opsWriteVcom c ++ opsDummyLinePeriod c ++ opsGateLineWidth c ++
    opsDataEntryMode c ++ opsWriteLut c

/-- The expansion of `INIT` (R134). -/
def opsInit (c : Config) : List MicroOp :=
  [.uOpen, .uPhase .resetting] ++ opsResetPulse c ++ [.uPhase .configuringRegisters] ++ opsConfigure c ++
    [.uPhase .ready]

/-- The expansion of `CLOSE` (R135). -/
def opsClose : List MicroOp := [.uClose, .uPhase .unpowered]

/-! ## Host operations -/

/-- `INIT`, "accepted only when `PHASE = Unpowered`" (R134, R97). -/
def execInit (s : State) : Host.Outcome State Fault Refusal :=
  accept .unpowered s fun s => .next (s.load (opsInit s.cfg))

/-- `CLOSE`, "accepted only when `PHASE = Ready`" (R135, R97). -/
def execClose (s : State) : Host.Outcome State Fault Refusal :=
  accept .ready s fun s => .next (s.load opsClose)

/-! ## Panel commands -/

/-- Sends one panel command: its micro-operations become the sequencer's. A panel command "reads or writes" no "PDC
state other than the line latches" (spec/40_init_reset.md section 4). It is presented, and turned away outside phase
`Ready`, as the `SEND_COMMAND` and `SEND_DATA` it stands for are (R113; log entry 4). -/
def sendPanel (ops : Config → List MicroOp) (s : State) : Host.Outcome State Fault Refusal :=
  accept .ready s fun s => .next { s with seq := ops s.cfg }

/-- `CMD_DRIVER_OUTPUT` (R136). -/
def execCmdDriverOutput (s : State) : Host.Outcome State Fault Refusal := sendPanel opsDriverOutput s

/-- `CMD_BOOSTER_SOFT_START` (R137). -/
def execCmdBoosterSoftStart (s : State) : Host.Outcome State Fault Refusal := sendPanel opsBoosterSoftStart s

/-- `CMD_WRITE_VCOM` (R138). -/
def execCmdWriteVcom (s : State) : Host.Outcome State Fault Refusal := sendPanel opsWriteVcom s

/-- `CMD_DUMMY_LINE_PERIOD` (R139). -/
def execCmdDummyLinePeriod (s : State) : Host.Outcome State Fault Refusal := sendPanel opsDummyLinePeriod s

/-- `CMD_GATE_LINE_WIDTH` (R140). -/
def execCmdGateLineWidth (s : State) : Host.Outcome State Fault Refusal := sendPanel opsGateLineWidth s

/-- `CMD_DATA_ENTRY_MODE` (R141). -/
def execCmdDataEntryMode (s : State) : Host.Outcome State Fault Refusal := sendPanel opsDataEntryMode s

/-- `CMD_WRITE_LUT` (R142). -/
def execCmdWriteLut (s : State) : Host.Outcome State Fault Refusal := sendPanel opsWriteLut s

end Sys2Proof.Machine
end

