-- ==== Sys2Proof/Machine/Window.lean ====
section
/-! DEFINITION. Machine/Window.lean: `SET_WINDOW`, `SET_CURSOR` and their four panel commands
(spec/43_window_cursor.md). -/

namespace Sys2Proof.Machine

/-! ## The commands as the sequencer sends them -/

/-- `CMD_SET_RAM_X_RANGE` (R185). -/
def opsSetRamXRange (colStart colEnd : Byte) (c : Config) : List MicroOp :=
  cmd c c.codes.setRamXRange (payloadSetRamXRange colStart colEnd)

/-- `CMD_SET_RAM_Y_RANGE` (R186). -/
def opsSetRamYRange (yStart yEnd : Half) (c : Config) : List MicroOp :=
  cmd c c.codes.setRamYRange (payloadSetRamYRange yStart yEnd)

/-- `CMD_SET_RAM_X_COUNTER` (R188). -/
def opsSetRamXCounter (column : Byte) (c : Config) : List MicroOp :=
  cmd c c.codes.setRamXCounter (payloadSetRamXCounter column)

/-- `CMD_SET_RAM_Y_COUNTER` (R189). -/
def opsSetRamYCounter (y : Half) (c : Config) : List MicroOp :=
  cmd c c.codes.setRamYCounter (payloadSetRamYCounter y)

/-- The expansion of `SET_WINDOW`: the x command, then the y command, no poll (R187). -/
def opsSetWindow (c : Config) (xs ys xe ye : Half) : List MicroOp :=
  .uSetWin xs ys xe ye :: (opsSetRamXRange (col xs) (col xe) c ++ opsSetRamYRange ys ye c)

/-- The expansion of `SET_CURSOR`: the x command, the y command, and a busy poll (R190). -/
def opsSetCursor (c : Config) (x y : Half) : List MicroOp :=
  .uSetCur x y :: (opsSetRamXCounter (col x) c ++ opsSetRamYCounter y c ++ [.uPoll])

/-! ## Host operations -/

/-- `SET_WINDOW`; no check of the operands against each other or the geometry (R187). -/
def execSetWindow (xs ys xe ye : Half) (s : State) : Host.Outcome State Fault Refusal :=
  accept .ready s fun s => .next (s.load (opsSetWindow s.cfg xs ys xe ye))

/-- `SET_CURSOR`; no check of the cursor against the window (R190). -/
def execSetCursor (x y : Half) (s : State) : Host.Outcome State Fault Refusal :=
  accept .ready s fun s => .next (s.load (opsSetCursor s.cfg x y))

/-! ## Panel commands -/

/-- `CMD_SET_RAM_X_RANGE` (R185). -/
def execCmdSetRamXRange (colStart colEnd : Byte) (s : State) : Host.Outcome State Fault Refusal :=
  sendPanel (opsSetRamXRange colStart colEnd) s

/-- `CMD_SET_RAM_Y_RANGE` (R186). -/
def execCmdSetRamYRange (yStart yEnd : Half) (s : State) : Host.Outcome State Fault Refusal :=
  sendPanel (opsSetRamYRange yStart yEnd) s

/-- `CMD_SET_RAM_X_COUNTER` (R188). -/
def execCmdSetRamXCounter (column : Byte) (s : State) : Host.Outcome State Fault Refusal :=
  sendPanel (opsSetRamXCounter column) s

/-- `CMD_SET_RAM_Y_COUNTER` (R189). -/
def execCmdSetRamYCounter (y : Half) (s : State) : Host.Outcome State Fault Refusal :=
  sendPanel (opsSetRamYCounter y) s

end Sys2Proof.Machine
end

