-- ==== Sys2Proof/Machine/Display.lean ====
section
/-! DEFINITION. Machine/Display.lean: `WAIT_IDLE`, `TURN_ON_DISPLAY`, `DISPLAY`, `CLEAR` and their four panel commands
(spec/44_display_clear_busy.md). -/

namespace Sys2Proof.Machine

/-! ## The commands as the sequencer sends them -/

/-- `CMD_WRITE_RAM` with the bytes of a row: one data frame, whatever `FRAME_PER_BYTE` is (R205, R163). -/
def opsWriteRam (code : Byte) (w : MicroOp) : List MicroOp := frameC code ++ frame .high w

/-- `CMD_DISPLAY_UPDATE_2` (R206). -/
def opsDisplayUpdate2 (c : Config) : List MicroOp := cmd c c.codes.displayUpdate2 (payloadDisplayUpdate2 c)

/-- `CMD_MASTER_ACTIVATION`, no payload (R207). -/
def opsMasterActivation (c : Config) : List MicroOp := cmd c c.codes.masterActivation []

/-- `CMD_TERMINATE_FRAME`, no payload (R208). -/
def opsTerminateFrame (c : Config) : List MicroOp := cmd c c.codes.terminateFrame []

/-! ## Expansions -/

/-- The expansion of `WAIT_IDLE` (R202). -/
def opsWaitIdle : List MicroOp := [.uPoll]

/-- The expansion of `TURN_ON_DISPLAY` (R209). -/
def opsTurnOnDisplay (c : Config) : List MicroOp :=
  opsDisplayUpdate2 c ++ opsMasterActivation c ++ opsTerminateFrame c ++ [.uPoll]

/-- One row of `ROWS(w)`: set the cursor to `(0, j)`, which includes its busy poll, then write the row (R210). -/
def opsRow (c : Config) (w : Nat → MicroOp) (j : Nat) : List MicroOp :=
  opsSetCursor c 0 (BitVec.ofNat 16 j) ++ opsWriteRam c.codes.writeRam (w j)

/-- `ROWS(w)`: rows `0 .. HEIGHT-1` in ascending order (R210). -/
def opsRows (c : Config) (w : Nat → MicroOp) : List MicroOp := (List.range c.height).flatMap (opsRow c w)

/-- `SET_WINDOW(0, 0, WIDTH-1, HEIGHT-1)`, the full-panel window (R192). -/
def opsFullWindow (c : Config) : List MicroOp := opsSetWindow c 0 0 (lastColumn c) (lastRow c)

/-- The expansion of `DISPLAY` (R213). -/
def opsDisplay (c : Config) : List MicroOp :=
  opsFullWindow c ++ [.uPack] ++ opsRows c .uWrRow ++ opsTurnOnDisplay c

/-- The expansion of `CLEAR` (R215). -/
def opsClear (c : Config) : List MicroOp :=
  opsFullWindow c ++ opsRows c (fun _ => .uWrFill c.wb) ++ opsTurnOnDisplay c

/-! ## Host operations -/

/-- `WAIT_IDLE` (R202). -/
def execWaitIdle (s : State) : Host.Outcome State Fault Refusal :=
  accept .ready s fun s => .next (s.load opsWaitIdle)

/-- `TURN_ON_DISPLAY` (R209). -/
def execTurnOnDisplay (s : State) : Host.Outcome State Fault Refusal :=
  accept .ready s fun s => .next (s.load (opsTurnOnDisplay s.cfg))

/-- `DISPLAY` (R213): a null image "sets `flag NULL_IMAGE` and the operation completes with no event and no other state
change"; otherwise acceptance writes `IMGW` and `IMGH`. -/
def execDisplay (imgw imgh : Half) (present : Bool) (s : State) : Host.Outcome State Fault Refusal :=
  accept .ready s fun s =>
    if present then .next ({ s with imgw := .value imgw, imgh := .value imgh }.load (opsDisplay s.cfg))
    else .next (s.setFlag .nullImage)

/-- `CLEAR f`: "Acceptance writes `FILL <- f`" (R215). -/
def execClear (f : Byte) (s : State) : Host.Outcome State Fault Refusal :=
  accept .ready s fun s => .next ({ s with fill := .value f }.load (opsClear s.cfg))

/-! ## Panel commands -/

/-- `CMD_WRITE_RAM` with the bytes of one row (R205). -/
def execCmdWriteRam (row : List Byte) (s : State) : Host.Outcome State Fault Refusal :=
  sendPanel (fun c => opsWriteRam c.codes.writeRam (.uWrImm row)) s

/-- `CMD_DISPLAY_UPDATE_2` (R206). -/
def execCmdDisplayUpdate2 (s : State) : Host.Outcome State Fault Refusal := sendPanel opsDisplayUpdate2 s

/-- `CMD_MASTER_ACTIVATION` (R207). -/
def execCmdMasterActivation (s : State) : Host.Outcome State Fault Refusal := sendPanel opsMasterActivation s

/-- `CMD_TERMINATE_FRAME` (R208). -/
def execCmdTerminateFrame (s : State) : Host.Outcome State Fault Refusal := sendPanel opsTerminateFrame s

end Sys2Proof.Machine
end

