-- ==== Sys2Proof/Machine/Framing.lean ====
section
/-! DEFINITION. Machine/Framing.lean: `SEND_COMMAND` and `SEND_DATA` (spec/41_framing.md section 3). -/

namespace Sys2Proof.Machine

/-- The expansion of `SEND_COMMAND c` (R164). -/
def opsSendCommand (c : Byte) : List MicroOp := frameC c

/-- The expansion of `SEND_DATA n`: "always one frame and one burst, whatever `FRAME_PER_BYTE` is" (R166). -/
def opsSendData (n : Nat) : List MicroOp := frame .high (.uWrPay n)

/-- `SEND_COMMAND c`: "the PDC does not check `c` against the command set" (R164, R104). -/
def execSendCommand (c : Byte) (s : State) : Host.Outcome State Fault Refusal :=
  accept .ready s fun s => .next (s.load (opsSendCommand c))

/-- `SEND_DATA n` (R166): `ILLEGAL_REQ` when `n = 0` or `n > PAY_SIZE` (R97 check 3), else `PLEN <- n`. -/
def execSendData (n : Half) (s : State) : Host.Outcome State Fault Refusal :=
  accept .ready s fun s =>
    if n = 0 ∨ s.cfg.paySize < n.toNat then .next (s.setFlag .illegalReq)
    else .next ({ s with plen := .value n }.load (opsSendData n.toNat))

end Sys2Proof.Machine
end

