-- ==== Sys2Proof/Machine/Dispatch.lean ====
section
/-! DEFINITION. Machine/Dispatch.lean: one arm for each instruction. -/

namespace Sys2Proof.Machine

def exec (i : Instr) (s : State) : Host.Outcome State Fault Refusal :=
  match i with
  -- host operations
  | .init => Sys2Proof.Machine.execInit s
  | .sendCommand c => Sys2Proof.Machine.execSendCommand c s
  | .sendData n => Sys2Proof.Machine.execSendData n s
  | .waitIdle => Sys2Proof.Machine.execWaitIdle s
  | .setWindow xStart yStart xEnd yEnd => Sys2Proof.Machine.execSetWindow xStart yStart xEnd yEnd s
  | .setCursor x y => Sys2Proof.Machine.execSetCursor x y s
  | .turnOnDisplay => Sys2Proof.Machine.execTurnOnDisplay s
  | .display imgw imgh present => Sys2Proof.Machine.execDisplay imgw imgh present s
  | .clear f => Sys2Proof.Machine.execClear f s
  | .close => Sys2Proof.Machine.execClose s
  | .pack imgw imgh => Sys2Proof.Machine.execPack imgw imgh s
  -- panel commands
  | .cmdDriverOutput => Sys2Proof.Machine.execCmdDriverOutput s
  | .cmdBoosterSoftStart => Sys2Proof.Machine.execCmdBoosterSoftStart s
  | .cmdWriteVcom => Sys2Proof.Machine.execCmdWriteVcom s
  | .cmdDummyLinePeriod => Sys2Proof.Machine.execCmdDummyLinePeriod s
  | .cmdGateLineWidth => Sys2Proof.Machine.execCmdGateLineWidth s
  | .cmdDataEntryMode => Sys2Proof.Machine.execCmdDataEntryMode s
  | .cmdWriteLut => Sys2Proof.Machine.execCmdWriteLut s
  | .cmdSetRamXRange colStart colEnd => Sys2Proof.Machine.execCmdSetRamXRange colStart colEnd s
  | .cmdSetRamYRange yStart yEnd => Sys2Proof.Machine.execCmdSetRamYRange yStart yEnd s
  | .cmdSetRamXCounter column => Sys2Proof.Machine.execCmdSetRamXCounter column s
  | .cmdSetRamYCounter y => Sys2Proof.Machine.execCmdSetRamYCounter y s
  | .cmdWriteRam row => Sys2Proof.Machine.execCmdWriteRam row s
  | .cmdDisplayUpdate2 => Sys2Proof.Machine.execCmdDisplayUpdate2 s
  | .cmdMasterActivation => Sys2Proof.Machine.execCmdMasterActivation s
  | .cmdTerminateFrame => Sys2Proof.Machine.execCmdTerminateFrame s

end Sys2Proof.Machine
end

