-- ==== Sys2Proof/Machine/Sequencer.lean ====
section
/-! DEFINITION. Machine/Sequencer.lean: what each micro-operation does (spec/30_encoding.md R110). Each is performed as
the head of `SEQ`, already removed (spec/10_state.md R28). -/

namespace Sys2Proof.Machine

/-- `uOPEN`: "`draw ok ∈ {0,1}; emit OPEN(ok); if ok = 0 then raise Fault(SetupFailure)`" (R150, R232). -/
def performOpen (s : State) : State :=
  let t := s.drawnOpen.emit (.open s.opensNow)
  if s.opensNow then t else t.raise .setupFailure

/-- The four writes, which may abort (R110). -/
def MicroOp.isWrite : MicroOp → Bool
  | .uWrImm _ | .uWrRow _ | .uWrFill _ | .uWrPay _ => true
  | .uOpen | .uClose | .uRst _ | .uDc _ | .uCs _ | .uSleep _ | .uPhase _ | .uSetWin _ _ _ _ | .uSetCur _ _ | .uPack
  | .uPoll => false

/-- A write: "`draw abort ∈ {0,1}; if abort = 1 then raise Fault(TransportAbort); emit WR(bytes)`" (R155, R233). -/
def performWrite (bytes : List Byte) (s : State) : State :=
  if s.abortsNow then s.drawnAbort.raise .transportAbort else s.drawnAbort.emit (.wr bytes)

/-- A write of `n` bytes read from a space at `a`, in ascending order, when it is performed (R156, R158). -/
def performWriteFrom (sp : Space) (a n : Nat) (s : State) : Host.Outcome State Fault Refusal :=
  if a + n ≤ s.sizeOf sp then .next (performWrite (s.bytesAt sp a n) s)
  else .fault (.noSuchAddress sp (max a (s.sizeOf sp)))

/-- `BUSY_TIMEOUT_POLLS = N and POLLS >= N` (R201, R234). -/
def timedOut (c : Config) (polls : Nat) : Bool :=
  match c.busyTimeoutPolls with
  | none => false
  | some n => decide (n ≤ polls)

/-- `uPOLL`: samples the busy line once; idle ends the wait, busy sleeps and samples again, unless the configured number
of consecutive busy answers is reached (R201). -/
def performPoll (s : State) : State :=
  if s.busyNow then
    let t := { s.drawnBusy.emit (.busy .high) with polls := s.polls + 1 }
    if timedOut s.cfg t.polls then t.raise .controllerUnresponsive
    else { t with seq := .uSleep s.cfg.tPoll :: .uPoll :: s.seq }
  else { s.drawnBusy.emit (.busy .low) with polls := 0 }

/-- The micro-operations (R110, R150 to R161, R173, R201). -/
def perform (m : MicroOp) (s : State) : Host.Outcome State Fault Refusal :=
  match m with
  | .uOpen => .next (performOpen s)
  | .uClose => .next (s.emit .close)
  | .uRst l => .next { s.emit (.rst l) with rst := .driven l }
  | .uDc l => .next { s.emit (.dc l) with dc := .driven l }
  | .uCs l => .next { s.emit (.cs l) with cs := .driven l }
  | .uWrImm bytes => .next (performWrite bytes s)
  | .uWrRow j => performWriteFrom .buf (j * s.cfg.wb) s.cfg.wb s
  | .uWrFill n => .next (performWrite (List.replicate n s.fillVal) s)
  | .uWrPay n => performWriteFrom .pay 0 n s
  | .uSleep ms => .next (s.emit (.sleep ms))
  | .uPhase p => .next { s with phase := p }
  | .uSetWin xs ys xe ye => .next { s with xs := .value xs, ys := .value ys, xe := .value xe, ye := .value ye }
  | .uSetCur x y => .next { s with cx := .value x, cy := .value y }
  | .uPack => .next s.packImage
  | .uPoll => .next (performPoll s)

end Sys2Proof.Machine
end

