-- ==== Sys2Proof/Machine/Fetch.lean ====
section
/-! DEFINITION. Machine/Fetch.lean: which agent moves next (spec/10_state.md R20, R28), and how an instruction reaches
the PDC. "The PDC fetches no instructions from memory": the host hands it one request at a time, when it is idle
(spec/30_encoding.md R95). -/

namespace Sys2Proof.Machine

/-- What a step does before, or instead of, an instruction's own meaning. -/
inductive Fetched where
  /-- The host has presented instruction `i`; the state is the one it is to be executed in. -/
  | run (i : Instr) (s : State)
  /-- No instruction is executed by this step. -/
  | settled (o : Host.Outcome State Fault Refusal)

/-- The host presents a word: an instruction is executed; a word that is none is turned away, "`flag ILLEGAL_REQ`, no
event, no other state change, the PDC stays idle. It is not a fault" (R94, R97 check 1). -/
def presented (w : CodeWord) (s : State) : Fetched :=
  match decode s.cfg w with
  | .ok i => .run i s
  | .error _ => .settled (.next (s.setFlag .illegalReq))

/-- The host fills `PAY` from address 0 (R63, R112). -/
def writtenPay (bytes : List Byte) (s : State) : Host.Outcome State Fault Refusal :=
  if bytes.length ≤ s.sizeOf .pay then .next { s with pay := Memory.writeBytes s.pay 0 bytes }
  else .fault (.noSuchAddress .pay (s.sizeOf .pay))

/-- The host fills `IMG` from address 0, row-major (R62, R112). -/
def writtenImg (bytes : List Byte) (s : State) : Host.Outcome State Fault Refusal :=
  .next { s with img := Memory.writeBytes s.img 0 bytes }

/-- The host's move (R95, R84, R112). -/
def hostMove (m : HostMove) (s : State) : Fetched :=
  match m with
  | .present w => presented w s
  | .writePay bytes => .settled (writtenPay bytes s)
  | .writeImg bytes => .settled (writtenImg bytes s)

/-- Who moves. A configuration that is no instance has no machine (R6). A halted PDC has no step (R28, R236). A PDC with
a request in progress performs its next micro-operation (R28). An idle PDC "has no step of its own; the host may hand
over the next request" (R28), and waits while the host has none (log entry 9). -/
def fetch (s : State) : Fetched :=
  if s.cfg.legal then
    if s.halt then .settled (.fault (.halted s.cause))
    else match s.seq with
      | m :: rest => .settled (perform m { s with seq := rest })
      | [] => match s.host with
        | m :: rest => hostMove m { s with host := rest }
        | [] => .settled (.next s)
  else .settled (.refused .notAnInstance)

end Sys2Proof.Machine
end

