-- ==== Sys2Proof/Machine/Step.lean ====
section
/-! DEFINITION. Machine/Step.lean: one step of the machine. -/

namespace Sys2Proof.Machine

/-- One step: the agent whose turn it is moves (Fetch.lean); an instruction the host presents is executed. "One
micro-operation, hence at most one event, per step" (spec/92_eei_decisions.md D32). -/
def step (s : State) : Host.Outcome State Fault Refusal :=
  match fetch s with
  | .run i t => exec i t
  | .settled o => o

/-- The state whose next step presents the instruction whose table row's bits are `w`: the PDC is idle and the word is
the host's next move. The PDC has no program memory; a program comes to it as the host's moves (log entry 10). -/
def State.withFetchWord (s : State) (nbits w : Nat) : State :=
  { s with seq := [], halt := false, host := .present (tableWord s.cfg nbits w) :: s.host }

end Sys2Proof.Machine
end

