-- ==== Sys2Proof/Machine/Panel.lean ====
section
/-! DEFINITION. Machine/Panel.lean: the informative model of the panel controller (spec/20_memory.md R75), as a view of
the trace. The panel controller is "outside the PDC" (R35) and out of scope (R4); "No PDC rule depends on it" (R75), and
no meaning of this model reads this view. PRESUMED: the spec takes R75 from general knowledge (G5; log entry 13). -/

namespace Sys2Proof.Machine

/-- The panel controller as R75 has it. Columns, rows and counters are in the controller's units. -/
structure Panel where
  /-- The level of the data/command-select line. -/
  dc      : Latch
  /-- How many reset pulses the panel has seen; what they leave depends on it. -/
  resets  : Nat
  /-- The command last received, and the data bytes received since (R224). -/
  command : Option Byte
  params  : List Byte
  /-- The window in column and row units. -/
  xs : Nat
  xe : Nat
  ys : Nat
  ye : Nat
  /-- The X and Y counters. -/
  xc : Nat
  yc : Nat
  /-- `PRAM[column, row]`, at key `column + 256 * row`; a column is one byte (R69). A cell that is not listed may hold any
  value (R261). -/
  pram : Memory
  /-- What the panel shows: the RAM at the last refresh (R74, R275). Before the first, and after a reset pulse, nothing
  is known of it (N13). -/
  shown : Option Memory
deriving DecidableEq, Repr

/-- A panel of whose registers, RAM and picture nothing is known, the `n`-th time (R261, U16). A column register holds a
byte and a row register 16 bits, as the payloads that set them do (R185, R186, R188, R189). -/
def Panel.unknown (dc : Latch) (n : Nat) : Panel where
  dc      := dc
  resets  := n
  command := none
  params  := []
  xs      := Config.panelUnknown n 0 % 256
  xe      := Config.panelUnknown n 1 % 256
  ys      := Config.panelUnknown n 2 % 65536
  ye      := Config.panelUnknown n 3 % 65536
  xc      := Config.panelUnknown n 4 % 256
  yc      := Config.panelUnknown n 5 % 65536
  pram    := []
  shown   := none

/-- The panel before the PDC has sent anything (R261, U16). -/
def Panel.initial : Panel := Panel.unknown .undriven 0

/-- The key of a cell of `PRAM`. -/
def pramKey (column row : Nat) : Nat := column + 256 * row

/-- A byte of RAM data: "`PRAM[xc, yc] <- b; xc <- xc + 1`, and when `xc` passes `xe` it returns to `xs` and `yc <- yc +
1`" (R75). DESIGN CHOICE: the byte is stored whatever the busy line last read (log entry 24), the counters move X then Y
whatever data entry mode was sent, the source giving only `0x03` (log entry 25), and they move so from any window and
cursor, an inverted window among them (log entry 26). DESIGN CHOICE too: the byte is stored at `(xc, yc)` also where that
cell is outside the window, as the formula of R75 has it, although the window "bounds where writes land" (R73, R78; log
entry 26). -/
def Panel.writeRam (p : Panel) (b : Byte) : Panel :=
  let q := { p with pram := Memory.write p.pram (pramKey p.xc p.yc) b, xc := p.xc + 1 }
  if p.xe < q.xc then { q with xc := p.xs, yc := p.yc + 1 } else q

/-- A byte of a command frame selects the command (R224). "The picture changes only when the activation sequence runs"
(R275), which is the activation flags and then the master activation, which "starts the refresh that the flags of rule
R206 select" (R207, R209): the panel then shows its RAM (R74). A master activation that does not come right after
`CMD_DISPLAY_UPDATE_2 [ACT_FLAGS]` is not that sequence and changes no picture. DESIGN CHOICE: the RAM is kept across the
refresh, and the picture is there from the activation on (log entry 27); the frame terminator changes nothing (log entry
28); a code outside the fifteen changes nothing (log entry 23); a command is carried out whatever the busy line last
read (log entry 24). -/
def Panel.commandByte (c : Config) (p : Panel) (code : Byte) : Panel :=
  let q := { p with command := some code, params := [] }
  if code = c.codes.masterActivation ∧ p.command = some c.codes.displayUpdate2 ∧ p.params = [c.actFlags] then
    { q with shown := some p.pram }
  else q

/-- A byte of a data frame is a parameter of the command, or RAM data (R224, R75). DESIGN CHOICE: a register is set when
the last byte of its payload arrives; a payload that is shorter sets nothing, surplus bytes change nothing, and so do the
bytes after a code outside the fifteen or with no command before them (log entry 23); bytes are taken whatever the busy
line last read (log entry 24). -/
def Panel.dataByte (c : Config) (p : Panel) (b : Byte) : Panel :=
  let q := { p with params := p.params ++ [b] }
  if p.command = some c.codes.writeRam then q.writeRam b
  else if p.command = some c.codes.setRamXRange then
    match q.params with
    | [x0, x1] => { q with xs := x0.toNat, xe := x1.toNat }
    | _ => q
  else if p.command = some c.codes.setRamYRange then
    match q.params with
    | [a0, a1, b0, b1] => { q with ys := a0.toNat + 256 * a1.toNat, ye := b0.toNat + 256 * b1.toNat }
    | _ => q
  else if p.command = some c.codes.setRamXCounter then
    match q.params with
    | [a] => { q with xc := a.toNat }
    | _ => q
  else if p.command = some c.codes.setRamYCounter then
    match q.params with
    | [a0, a1] => { q with yc := a0.toNat + 256 * a1.toNat }
    | _ => q
  else q

/-- One byte on the bus: the level of the data/command-select line says which it is (R101, R224). In every run that level
has been driven and chip-select is low when a byte is sent (R162, R165), so chip-select is not asked for, and a byte
before the level is driven, which no run sends, changes nothing. -/
def Panel.byte (c : Config) (p : Panel) (b : Byte) : Panel :=
  match p.dc with
  | .driven .low => p.commandByte c b
  | .driven .high => p.dataByte c b
  | .undriven => p

/-- What an event does to the panel. The controller "is in reset while the line is 0" (R131), and the reset pulse leaves
its registers, RAM and picture at any value (R261, U16, N13): the free values of one more pulse. DESIGN CHOICE: that it
is `RST(0)` that does so, and that opening and closing the transport does not (log entry 29). -/
def Panel.next (c : Config) (p : Panel) : Event → Panel
  | .dc l => { p with dc := .driven l }
  | .wr bytes => bytes.foldl (Panel.byte c) p
  | .rst .low => Panel.unknown p.dc (p.resets + 1)
  | .rst .high | .open _ | .close | .cs _ | .sleep _ | .busy _ => p

/-- The panel when the events of the trace have reached it, in trace order (R79). -/
def State.panel (s : State) : Panel := s.trace.foldl (Panel.next s.cfg) Panel.initial

end Sys2Proof.Machine
end

