-- ==== Sys2Proof/Machine/Observe.lean ====
section
/-! DEFINITION. Machine/Observe.lean: what the spec reads off the trace (spec/10_state.md R32, R34, R39;
spec/70_reset_and_hazards.md R280). None of it is state. -/

namespace Sys2Proof.Machine

/-- The level of the reset line after the events of a trace (R32). -/
def rstAfter (l : Latch) : Event → Latch
  | .rst k => .driven k
  | .open _ | .close | .dc _ | .cs _ | .wr _ | .sleep _ | .busy _ => l

/-- The level of the data/command-select line after an event (R32). -/
def dcAfter (l : Latch) : Event → Latch
  | .dc k => .driven k
  | .open _ | .close | .rst _ | .cs _ | .wr _ | .sleep _ | .busy _ => l

/-- The level of the chip-select line after an event (R32). -/
def csAfter (l : Latch) : Event → Latch
  | .cs k => .driven k
  | .open _ | .close | .rst _ | .dc _ | .wr _ | .sleep _ | .busy _ => l

/-- The bytes of a `WR` event; no other event carries any. -/
def bytesOf : Event → List Byte
  | .wr bytes => bytes
  | .open _ | .close | .rst _ | .dc _ | .cs _ | .sleep _ | .busy _ => []

/-- A sample of the busy line (R17). -/
def isBusyRead : Event → Bool
  | .busy _ => true
  | .open _ | .close | .rst _ | .dc _ | .cs _ | .wr _ | .sleep _ => false

/-- The byte stream: "the list of pairs `(dc, b)`, one per byte of every `WR` event in order, where `dc` is the `DC`
latch at that `WR`" (R39). -/
def byteStreamFrom : Latch → List Event → List (Latch × Byte)
  | _, [] => []
  | l, e :: es => (bytesOf e).map (fun b => (l, b)) ++ byteStreamFrom (dcAfter l e) es

/-- The byte stream of a state (R39). -/
def State.byteStream (s : State) : List (Latch × Byte) := byteStreamFrom .undriven s.trace

/-- A frame: its kind, which is the `DC` level at its `CS(0)`, the number of `WR` events it has seen, and their bytes
(R34). -/
structure Frame where
  kind   : Latch
  writes : Nat
  bytes  : List Byte
deriving DecidableEq, Repr

/-- What is known of the frames when some events have happened: the `DC` level, the frame that is open, if any, and the
frames that are closed, in order (R34, R39). -/
structure FrameScan where
  dc     : Latch
  opened : Option Frame
  closed : List Frame
deriving DecidableEq, Repr

/-- "A frame is open from a `CS(0)` event to the next `CS(1)` event" (R34). -/
def FrameScan.next (f : FrameScan) : Event → FrameScan
  | .dc l => { f with dc := .driven l }
  | .cs .low => { f with opened := some { kind := f.dc, writes := 0, bytes := [] } }
  | .cs .high => { f with opened := none, closed := f.closed ++ f.opened.toList }
  | .wr bs => { f with opened := f.opened.map fun g => { g with writes := g.writes + 1, bytes := g.bytes ++ bs } }
  | .open _ | .close | .rst _ | .sleep _ | .busy _ => f

/-- The frames of a trace. -/
def scanFrames (es : List Event) : FrameScan :=
  es.foldl FrameScan.next { dc := .undriven, opened := none, closed := [] }

/-- The frame stream (R39): the frames that are closed, in order. DESIGN CHOICE: a frame that is still open, or that an
abort has left open for good (R165), is not in it and is State.openFrame alone; the spec says only "the list of frames"
(log entry 22). -/
def State.frameStream (s : State) : List Frame := (scanFrames s.trace).closed

/-- The open frame, if one is open (R34). -/
def State.openFrame (s : State) : Option Frame := (scanFrames s.trace).opened

/-- The lower bound on elapsed time that the sleeps of a trace give, in milliseconds (R159, R280). -/
def sleepTime : List Event → Nat
  | [] => 0
  | .sleep n :: es => n + sleepTime es
  | .open _ :: es | .close :: es | .rst _ :: es | .dc _ :: es | .cs _ :: es | .wr _ :: es | .busy _ :: es =>
    sleepTime es

end Sys2Proof.Machine
end

