-- ==== Sys2Proof/Safety.lean ====
section
/-! DEFINITION. Safety.lean: the terms in which claims speak of the environment, of runs, of framing and of the events
an operation sends. -/

namespace Sys2Proof.Machine

/-! ## The environment -/

/-- Every answer, from now on, is `b`. -/
def Answers.Only (b : Bool) (a : Answers) : Prop := (∀ x ∈ a.script, x = b) ∧ a.rest = some b

/-- "the transport never aborts" (R155). -/
def State.NeverAborts (s : State) : Prop := s.abortAns.Only false

/-- The busy line reads 0 at every sample. -/
def State.AlwaysIdle (s : State) : Prop := s.busyAns.Only false

/-- The busy line reads 1 at every sample: the environment of the hang (R203, R237). -/
def State.AlwaysBusy (s : State) : Prop := s.busyAns.Only true

/-- The next `k` samples of the busy line read 1 and the one after them 0. -/
def State.BusyTimes (k : Nat) (s : State) : Prop := ∃ r, s.busyAns.script = List.replicate k true ++ false :: r

/-- The state but for the environment's answers still to come: what a claim about a whole operation compares. -/
def State.apartFromAnswers (s : State) : State :=
  { s with openAns := .free, abortAns := .free, busyAns := .free, draws := 0 }

/-- `k` consecutive busy answers do not reach the configured timeout, if there is one (R201). -/
def State.Patient (k : Nat) (s : State) : Prop := ∀ n, s.cfg.busyTimeoutPolls = some n → k < n

/-- A PDC of a legal configuration that is idle in phase `p` (R95, R97). -/
def State.IdleIn (p : Phase) (s : State) : Prop := s.cfg.legal = true ∧ s.idle = true ∧ s.phase = p

/-- The image's pixels are all white: no luma is zero (R62, R177). -/
def State.AllWhite (s : State) : Prop := ∀ x y, x < s.imgwVal → y < s.imghVal → s.luma x y ≠ 0

/-- The source pixel of panel pixel `(px, py)`: itself when aligned, `(HEIGHT - 1 - py, px)` when rotated (R175). -/
def sourcePixel (c : Config) (o : Orient) (p : Nat × Nat) : Nat × Nat :=
  match o with
  | .rotated => (c.height - 1 - p.2, p.1)
  | .aligned | .none => p

/-! ## Runs -/

/-- `n` steps from `s` lead to `t`. -/
def Steps : Nat → State → State → Prop
  | 0, s, t => t = s
  | n + 1, s, t => ∃ u, step s = .next u ∧ Steps n u t

/-- The operation in progress in `s` completes in `t`: idle again (R95), with the host's later moves still to come. -/
def Completes (s t : State) : Prop := (∃ n, Steps n s t) ∧ t.idle = true ∧ t.host = s.host

/-! ## The events of frames and commands -/

/-- A command frame, on the wire (R162). -/
def commandFrame (c : Byte) : List Event := [.dc .low, .cs .low, .wr [c], .cs .high]

/-- A data frame, on the wire (R162). -/
def dataFrame (bytes : List Byte) : List Event := [.dc .high, .cs .low, .wr bytes, .cs .high]

/-- A register payload: one data frame, or one per byte when `FRAME_PER_BYTE` (R163). -/
def payloadFrames (c : Config) (bytes : List Byte) : List Event :=
  if c.framePerByte then bytes.flatMap fun b => dataFrame [b] else dataFrame bytes

/-- A panel command with a payload, on the wire (R101). -/
def commandEvents (c : Config) (code : Byte) (bytes : List Byte) : List Event :=
  commandFrame code ++ payloadFrames c bytes

/-- The events of `SET_WINDOW` (R187). -/
def windowEvents (c : Config) (xs ys xe ye : Half) : List Event :=
  commandEvents c c.codes.setRamXRange [col xs, col xe] ++
    commandEvents c c.codes.setRamYRange [lo8 ys, hi8 ys, lo8 ye, hi8 ye]

/-- The events of `SET_CURSOR` up to its busy poll (R190). -/
def cursorEvents (c : Config) (x y : Half) : List Event :=
  commandEvents c c.codes.setRamXCounter [col x] ++ commandEvents c c.codes.setRamYCounter [lo8 y, hi8 y]

/-- The events of `TURN_ON_DISPLAY` up to its busy poll (R209). -/
def activationEvents (c : Config) : List Event :=
  commandEvents c c.codes.displayUpdate2 [c.actFlags] ++ commandFrame c.codes.masterActivation ++
    commandFrame c.codes.terminateFrame

/-- The events of one row whose bytes are `bytes`, the busy line idle at the sample (R210). -/
def rowEvents (c : Config) (j : Nat) (bytes : List Byte) : List Event :=
  cursorEvents c 0 (BitVec.ofNat 16 j) ++ [.busy .low] ++ commandFrame c.codes.writeRam ++ dataFrame bytes

/-- The events of the whole streaming of rows `w 0 .. w (HEIGHT-1)` between the window and the activation, the busy
line always idle (R213, R215; V40). -/
def streamEvents (c : Config) (w : Nat → List Byte) : List Event :=
  windowEvents c 0 0 (lastColumn c) (lastRow c) ++ (List.range c.height).flatMap (fun j => rowEvents c j (w j)) ++
    activationEvents c ++ [.busy .low]

/-- The events of the seven configuration commands (R133; V1). -/
def configureEvents (c : Config) : List Event :=
  commandEvents c c.codes.driverOutput [lo8 (lastRow c), hi8 (lastRow c), 0x00] ++
    commandEvents c c.codes.boosterSoftStart [0xD7, 0xD6, 0x9D] ++
    commandEvents c c.codes.writeVcom [0xA8] ++
    commandEvents c c.codes.dummyLinePeriod [0x1A] ++
    commandEvents c c.codes.gateLineWidth [0x08] ++
    commandEvents c c.codes.dataEntryMode [0x03] ++
    commandEvents c c.codes.writeLut c.lut

/-- The events of `RESET_PULSE` (R131). -/
def resetPulseEvents (c : Config) : List Event :=
  [.rst .high, .sleep c.tRstPre, .rst .low, .sleep c.tRstLow, .rst .high, .sleep c.tRstPost]

/-- The events of one wait in which the busy line reads 1 `k` times and then 0 (R202). -/
def waitEvents (c : Config) (k : Nat) : List Event :=
  (List.replicate k [Event.busy .high, .sleep c.tPoll]).flatten ++ [.busy .low]

/-- The events of a panel command (R136 to R142, R185, R186, R188, R189, R205 to R208); none for a host operation. -/
def panelEvents (c : Config) : Instr → Option (List Event)
  | .cmdDriverOutput => some (commandEvents c c.codes.driverOutput [lo8 (lastRow c), hi8 (lastRow c), 0x00])
  | .cmdBoosterSoftStart => some (commandEvents c c.codes.boosterSoftStart [0xD7, 0xD6, 0x9D])
  | .cmdWriteVcom => some (commandEvents c c.codes.writeVcom [0xA8])
  | .cmdDummyLinePeriod => some (commandEvents c c.codes.dummyLinePeriod [0x1A])
  | .cmdGateLineWidth => some (commandEvents c c.codes.gateLineWidth [0x08])
  | .cmdDataEntryMode => some (commandEvents c c.codes.dataEntryMode [0x03])
  | .cmdWriteLut => some (commandEvents c c.codes.writeLut c.lut)
  | .cmdSetRamXRange a b => some (commandEvents c c.codes.setRamXRange [a, b])
  | .cmdSetRamYRange ys ye => some (commandEvents c c.codes.setRamYRange [lo8 ys, hi8 ys, lo8 ye, hi8 ye])
  | .cmdSetRamXCounter a => some (commandEvents c c.codes.setRamXCounter [a])
  | .cmdSetRamYCounter y => some (commandEvents c c.codes.setRamYCounter [lo8 y, hi8 y])
  | .cmdWriteRam row => some (commandFrame c.codes.writeRam ++ dataFrame row)
  | .cmdDisplayUpdate2 => some (commandEvents c c.codes.displayUpdate2 [c.actFlags])
  | .cmdMasterActivation => some (commandFrame c.codes.masterActivation)
  | .cmdTerminateFrame => some (commandFrame c.codes.terminateFrame)
  | .init | .sendCommand _ | .sendData _ | .waitIdle | .setWindow _ _ _ _ | .setCursor _ _ | .turnOnDisplay
  | .display _ _ _ | .clear _ | .close | .pack _ _ => none

/-! ## Composite operations (R113) -/

/-- A command and its payload, issued as separate requests with the payload in `PAY` (R113). -/
def sendMoves (c : Config) (code : Byte) (bytes : List Byte) : List HostMove :=
  [.present (encode c (.sendCommand code)), .writePay bytes,
    .present (encode c (.sendData (BitVec.ofNat 16 bytes.length)))]

/-- `SET_WINDOW`, as separate requests (R113). -/
def windowMoves (c : Config) (xs ys xe ye : Half) : List HostMove :=
  sendMoves c c.codes.setRamXRange [col xs, col xe] ++
    sendMoves c c.codes.setRamYRange [lo8 ys, hi8 ys, lo8 ye, hi8 ye]

/-- `SET_CURSOR`, as separate requests (R113). -/
def cursorMoves (c : Config) (x y : Half) : List HostMove :=
  sendMoves c c.codes.setRamXCounter [col x] ++ sendMoves c c.codes.setRamYCounter [lo8 y, hi8 y] ++
    [.present (encode c .waitIdle)]

/-- `TURN_ON_DISPLAY`, as separate requests (R113). -/
def activationMoves (c : Config) : List HostMove :=
  sendMoves c c.codes.displayUpdate2 [c.actFlags] ++
    [.present (encode c (.sendCommand c.codes.masterActivation)),
      .present (encode c (.sendCommand c.codes.terminateFrame)), .present (encode c .waitIdle)]

/-- The rows of `CLEAR` and `DISPLAY`, as separate requests (R113). -/
def rowMoves (c : Config) (w : Nat → List Byte) : List HostMove :=
  (List.range c.height).flatMap fun j => cursorMoves c 0 (BitVec.ofNat 16 j) ++ sendMoves c c.codes.writeRam (w j)

/-- The host operations a composite is the concatenation of, as separate requests (R113). -/
def unrolled (s : State) : Instr → Option (List HostMove)
  | .setWindow xs ys xe ye => some (windowMoves s.cfg xs ys xe ye)
  | .setCursor x y => some (cursorMoves s.cfg x y)
  | .turnOnDisplay => some (activationMoves s.cfg)
  | .clear f => some (windowMoves s.cfg 0 0 (lastColumn s.cfg) (lastRow s.cfg) ++
      rowMoves s.cfg (fun _ => List.replicate s.cfg.wb f) ++ activationMoves s.cfg)
  | .display w h true =>
      let p := State.packImage { s with imgw := .value w, imgh := .value h }
      some (windowMoves s.cfg 0 0 (lastColumn s.cfg) (lastRow s.cfg) ++ [.present (encode s.cfg (.pack w h))] ++
        rowMoves s.cfg (fun j => p.bytesAt .buf (j * s.cfg.wb) s.cfg.wb) ++ activationMoves s.cfg)
  | .display _ _ false | .init | .sendCommand _ | .sendData _ | .waitIdle | .close | .pack _ _ => none
  | .cmdDriverOutput | .cmdBoosterSoftStart | .cmdWriteVcom | .cmdDummyLinePeriod | .cmdGateLineWidth
  | .cmdDataEntryMode | .cmdWriteLut | .cmdSetRamXRange _ _ | .cmdSetRamYRange _ _ | .cmdSetRamXCounter _
  | .cmdSetRamYCounter _ | .cmdWriteRam _ | .cmdDisplayUpdate2 | .cmdMasterActivation | .cmdTerminateFrame => none

/-! ## Framing (R165) -/

/-- Where a trace stands with respect to frames. -/
inductive Framing where
  /-- No frame is open. -/
  | closed
  /-- No frame is open and the last event drove data/command-select to `l`. -/
  | selected (l : Level)
  /-- A frame of kind `l` is open and has seen no write. -/
  | opened (l : Level)
  /-- A frame is open and has seen its one write. -/
  | written
  /-- An invariant of R165 is broken. -/
  | broken
deriving DecidableEq, Repr

/-- The framing invariants of R165, event by event: a `CS(0)` is immediately preceded by a `DC` event (item 3); between
it and the next `CS(1)` there is exactly one `WR` and nothing else (items 1, 2, 5); `CS(0)` and `CS(1)` alternate,
starting with `CS(0)` (item 4); a command frame carries one byte (item 7), and no frame carries none. -/
def Framing.next : Framing → Event → Framing
  | .closed, .dc l => .selected l
  | .closed, .cs _ | .closed, .wr _ => .broken
  | .closed, _ => .closed
  | .selected _, .dc l => .selected l
  | .selected l, .cs .low => .opened l
  | .selected _, .cs .high | .selected _, .wr _ => .broken
  | .selected _, _ => .closed
  | .opened .low, .wr bytes => if bytes.length = 1 then .written else .broken
  | .opened .high, .wr bytes => if bytes = [] then .broken else .written
  | .opened _, _ => .broken
  | .written, .cs .high => .closed
  | .written, _ => .broken
  | .broken, _ => .broken

/-- Where a trace stands. -/
def framing (es : List Event) : Framing := es.foldl Framing.next .closed

/-- Where the trace will stand when a micro-operation has been performed without a fault. -/
def Framing.afterOp (c : Config) (f : Framing) : MicroOp → Framing
  | .uOpen => f.next (.open true)
  | .uClose => f.next .close
  | .uRst l => f.next (.rst l)
  | .uDc l => f.next (.dc l)
  | .uCs l => f.next (.cs l)
  | .uWrImm bytes => f.next (.wr bytes)
  | .uWrRow _ => f.next (.wr (List.replicate c.wb 0))
  | .uWrFill n => f.next (.wr (List.replicate n 0))
  | .uWrPay n => f.next (.wr (List.replicate n 0))
  | .uSleep n => f.next (.sleep n)
  | .uPhase _ => f
  | .uSetWin _ _ _ _ => f
  | .uSetCur _ _ => f
  | .uPack => f
  | .uPoll => f.next (.busy .low)

/-- The framing invariants hold of the trace, and the micro-operations still to perform keep them and leave no frame
open: "When the PDC is idle, no frame is open" (R165 item 6). After a fault the last frame may stay open (R233). -/
def State.WellFramed (s : State) : Prop :=
  if s.halt then framing s.trace ≠ .broken ∧ s.seq = []
  else s.seq.foldl (Framing.afterOp s.cfg) (framing s.trace) = .closed

/-! ## Other invariants of the machine -/

/-- Each latch holds "the level last driven" on its line, `undriven` where the trace has not driven it (R32). -/
def State.LatchesAgree (s : State) : Prop :=
  s.rst = s.trace.foldl rstAfter .undriven ∧ s.dc = s.trace.foldl dcAfter .undriven ∧
    s.cs = s.trace.foldl csAfter .undriven

/-- The memories are in canonical form and list no byte outside their space (R60, R61, R63). -/
def State.MemoriesOk (s : State) : Prop :=
  Memory.wf s.buf ∧ Memory.wf s.img ∧ Memory.wf s.pay ∧ (∀ x ∈ s.buf, x.1 < s.cfg.buflen) ∧
    (∀ x ∈ s.pay, x.1 < s.cfg.paySize)

/-- "`HALT = 0` and `CAUSE = 0` until a fault" (R31), and a fault leaves `SEQ = []` (R236). -/
def State.HaltOk (s : State) : Prop :=
  (s.halt = false → s.cause = .none) ∧ (s.halt = true → s.cause ≠ .none ∧ s.seq = [])

/-- A micro-operation's accesses lie inside their space (R156, R158, R223). -/
def MicroOp.inRange (c : Config) : MicroOp → Prop
  | .uWrRow j => j < c.height
  | .uWrPay n => n ≤ c.paySize
  | .uOpen | .uClose | .uRst _ | .uDc _ | .uCs _ | .uWrImm _ | .uWrFill _ | .uSleep _ | .uPhase _ | .uSetWin _ _ _ _
  | .uSetCur _ _ | .uPack | .uPoll => True

/-- "All addresses are in range by construction" (R223). -/
def State.InRange (s : State) : Prop := ∀ m ∈ s.seq, m.inRange s.cfg

/-- The phase when the micro-operations still to perform have been performed. -/
def phaseAfter (p : Phase) : MicroOp → Phase
  | .uPhase q => q
  | .uOpen | .uClose | .uRst _ | .uDc _ | .uCs _ | .uWrImm _ | .uWrRow _ | .uWrFill _ | .uWrPay _ | .uSleep _
  | .uSetWin _ _ _ _ | .uSetCur _ _ | .uPack | .uPoll => p

/-- An operation that is not stopped by a fault ends in `Unpowered` or `Ready`: the phases between them last only
inside `INIT` (R130). -/
def State.PhaseOk (s : State) : Prop :=
  s.halt = false → s.seq.foldl phaseAfter s.phase = .unpowered ∨ s.seq.foldl phaseAfter s.phase = .ready

/-- "Transition to `Ready` only after the full sequence completes" (R29): entering `Ready` is the last micro-operation of
the operation that contains it. -/
def State.ReadyComesLast (s : State) : Prop := MicroOp.uPhase .ready ∉ s.seq.dropLast

end Sys2Proof.Machine
end

