-- ==== Sys2Proof/Certificates/Slice0/Obligations.lean ====
section
/-! DEFINITION. Certificates/Slice0/Obligations.lean: the statements for the provers. Each docstring names the rule of
spec/ it formalises, or the section it rests on. -/

open Sys2Proof Sys2Proof.Machine

/-! ## Encoding -/

/-- R91 to R93, R100, R101: no bit of an instruction's encoding is dropped, at either interface, for every legal
configuration (and so for every assignment of the fifteen codes, R11). -/
def Obligations.DecodeOfEncodeIsTheInstruction : Prop :=
  ∀ (c : Config) (i : Instr), c.legal = true → i.wf c = true → decode c (encode c i) = .ok i

/-- The request words of spec/95_test_vectors.md V1 to V43 and the command codes of R100, one for each instruction. The
codes are the reference configuration's (log entry 3). -/
def Obligations.PrintedWordsDecode : Prop :=
  let host := fun w => decode Config.reference (.request w)
  let panel := fun bytes => decode Config.reference (.command bytes)
  host 0x000000000000000001 = .ok .init ∧
  host 0x000000000000002402 = .ok (.sendCommand 0x24) ∧
  host 0x00000000000001FF02 = .ok (.sendCommand 0xFF) ∧
  host 0x000000000000000303 = .ok (.sendData 3) ∧
  host 0x000000000000000004 = .ok .waitIdle ∧
  host 0x00020000012C000705 = .ok (.setWindow 7 300 0 2) ∧
  host 0x000000000127000A06 = .ok (.setCursor 10 295) ∧
  host 0x000000000000000007 = .ok .turnOnDisplay ∧
  host 0x000000010128008008 = .ok (.display 128 296 true) ∧
  host 0x000000000000000008 = .ok (.display 0 0 false) ∧
  host 0x00000000000000FF09 = .ok (.clear 0xFF) ∧
  host 0x00000000000000000A = .ok .close ∧
  host 0x00000000008001280B = .ok (.pack 296 128) ∧
  panel [0x01] = .ok .cmdDriverOutput ∧ panel [0x0C] = .ok .cmdBoosterSoftStart ∧
  panel [0x2C] = .ok .cmdWriteVcom ∧ panel [0x3A] = .ok .cmdDummyLinePeriod ∧
  panel [0x3B] = .ok .cmdGateLineWidth ∧ panel [0x11] = .ok .cmdDataEntryMode ∧ panel [0x32] = .ok .cmdWriteLut ∧
  panel [0x44, 0x00, 0x0F] = .ok (.cmdSetRamXRange 0x00 0x0F) ∧
  panel [0x45, 0x00, 0x00, 0x27, 0x01] = .ok (.cmdSetRamYRange 0 295) ∧
  panel [0x4E, 0x01] = .ok (.cmdSetRamXCounter 0x01) ∧
  panel [0x4F, 0x27, 0x01] = .ok (.cmdSetRamYCounter 295) ∧
  panel (0x24 :: List.replicate 16 0xFF) = .ok (.cmdWriteRam (List.replicate 16 0xFF)) ∧
  panel [0x22] = .ok .cmdDisplayUpdate2 ∧ panel [0x20] = .ok .cmdMasterActivation ∧
  panel [0xFF] = .ok .cmdTerminateFrame

/-- R96: two requests with the same `op` that agree on what its format names (R92, R93) are the same instruction. -/
def Obligations.IgnoredBitsDoNotMatter : Prop :=
  ∀ v w : Request, Request.op v = Request.op w →
    (Request.op w ∈ ([0x01, 0x04, 0x07, 0x0A] : List Byte) → decodeRequest v = decodeRequest w) ∧
    (Request.op w ∈ ([0x02, 0x09] : List Byte) → lo8 (Request.a0 v) = lo8 (Request.a0 w) →
      decodeRequest v = decodeRequest w) ∧
    (Request.op w = 0x03 → Request.a0 v = Request.a0 w → decodeRequest v = decodeRequest w) ∧
    (Request.op w ∈ ([0x06, 0x0B] : List Byte) → Request.a0 v = Request.a0 w → Request.a1 v = Request.a1 w →
      decodeRequest v = decodeRequest w) ∧
    (Request.op w = 0x08 → Request.a0 v = Request.a0 w → Request.a1 v = Request.a1 w →
      (Request.a2 v).getLsbD 0 = (Request.a2 w).getLsbD 0 → decodeRequest v = decodeRequest w)

/-! ## The step -/

/-- R28, R95: when the PDC is idle and the host presents a word that decodes to an instruction, the step is exec of that
instruction, the host's move being spent. -/
def Obligations.StepExecutesThePresentedInstruction : Prop :=
  ∀ (s : State) (w : CodeWord) (rest : List HostMove) (i : Instr), s.cfg.legal = true → s.idle = true →
    s.host = .present w :: rest → decode s.cfg w = .ok i → step s = exec i { s with host := rest }

/-- R28: what a step is when no instruction is presented: the head of `SEQ` is performed with `SEQ` its tail; a halted
PDC has no step; an idle PDC has no step of its own (waiting is the model's choice, log entry 9). -/
def Obligations.StepWithoutAnInstruction : Prop :=
  ∀ s : State, s.cfg.legal = true →
    (∀ (m : MicroOp) (rest : List MicroOp), s.halt = false → s.seq = m :: rest →
      step s = perform m { s with seq := rest }) ∧
    (s.halt = true → step s = .fault (.halted s.cause)) ∧
    (s.idle = true → s.host = [] → step s = .next s)

/-- R94: a request with a reserved `op` sets `ILLEGAL_REQ` and does nothing else; the PDC stays idle. -/
def Obligations.ReservedRequestOnlySetsIllegalReq : Prop :=
  ∀ (s : State) (w : Request) (rest : List HostMove), s.cfg.legal = true → s.idle = true →
    s.host = .present (.request w) :: rest → (Request.op w = 0x00 ∨ 0x0C ≤ (Request.op w).toNat) →
    ∃ t, step s = .next t ∧ t = { s with host := rest, flags := { s.flags with illegalReq := true } } ∧
      t.idle = true ∧ t.halt = false ∧ t.trace = s.trace

/-- R97: the five steps of acceptance, in their order, for every request. -/
def Obligations.AcceptanceInOrder : Prop :=
  ∀ (s : State) (w : Request) (rest : List HostMove), s.cfg.legal = true → s.idle = true →
    s.host = .present (.request w) :: rest →
    let u := { s with host := rest }
    let op := (Request.op w).toNat
    let a0 := Request.a0 w
    let a1 := Request.a1 w
    step s = .next (
      if op = 0x00 ∨ 0x0C ≤ op then u.setFlag .illegalReq
      else if (op = 0x01 ∧ s.phase ≠ .unpowered) ∨ (op ≠ 0x01 ∧ s.phase ≠ .ready) then u.setFlag .notReady
      else if op = 0x03 ∧ (a0 = 0 ∨ s.cfg.paySize < a0.toNat) then u.setFlag .illegalReq
      else if op = 0x08 ∧ (Request.a2 w).getLsbD 0 = false then u.setFlag .nullImage
      else { u with
        polls := 0,
        plen := if op = 0x03 then .value a0 else s.plen,
        fill := if op = 0x09 then .value (lo8 a0) else s.fill,
        imgw := if op = 0x08 ∨ op = 0x0B then .value a0 else s.imgw,
        imgh := if op = 0x08 ∨ op = 0x0B then .value a1 else s.imgh,
        seq :=
          if op = 0x01 then opsInit s.cfg
          else if op = 0x02 then frameC (lo8 a0)
          else if op = 0x03 then [.uDc .high, .uCs .low, .uWrPay a0.toNat, .uCs .high]
          else if op = 0x04 then [.uPoll]
          else if op = 0x05 then opsSetWindow s.cfg a0 a1 (Request.a2 w) (Request.a3 w)
          else if op = 0x06 then opsSetCursor s.cfg a0 a1
          else if op = 0x07 then opsTurnOnDisplay s.cfg
          else if op = 0x08 then opsDisplay s.cfg
          else if op = 0x09 then opsClear s.cfg
          else if op = 0x0A then [.uClose, .uPhase .unpowered]
          else [.uPack] })

/-- R97 check 2, R225, for every instruction of both layers (for the panel commands, log entry 4): in the wrong phase
the flag `NOT_READY` is set and nothing else changes. -/
def Obligations.WrongPhaseOnlySetsNotReady : Prop :=
  ∀ (s : State) (i : Instr), s.idle = true → s.phase ≠ (if i = .init then Phase.unpowered else .ready) →
    exec i s = .next { s with flags := { s.flags with notReady := true } }

/-- R95, R84: no instruction is executed while the PDC is not idle. -/
def Obligations.NothingIsExecutedWhileBusy : Prop :=
  ∀ (s : State) (i : Instr), s.idle = false → exec i s = .refused .notIdle

/-! ## Where instructions complete: acceptance -/

/-- R134, R135, R164, R187, R190, R202, R209: each host operation without an operand register, in its phase, is accepted
with its expansion, and nothing else changes. -/
def Obligations.OperationsWithoutRegistersAreAccepted : Prop :=
  ∀ s : State, s.idle = true →
    (s.phase = .unpowered → exec .init s = .next { s with
      polls := 0,
      seq := [.uOpen, .uPhase .resetting, .uRst .high, .uSleep s.cfg.tRstPre, .uRst .low, .uSleep s.cfg.tRstLow,
          .uRst .high, .uSleep s.cfg.tRstPost, .uPhase .configuringRegisters] ++
        cmd s.cfg s.cfg.codes.driverOutput [lo8 (lastRow s.cfg), hi8 (lastRow s.cfg), 0x00] ++
        cmd s.cfg s.cfg.codes.boosterSoftStart [0xD7, 0xD6, 0x9D] ++ cmd s.cfg s.cfg.codes.writeVcom [0xA8] ++
        cmd s.cfg s.cfg.codes.dummyLinePeriod [0x1A] ++ cmd s.cfg s.cfg.codes.gateLineWidth [0x08] ++
        cmd s.cfg s.cfg.codes.dataEntryMode [0x03] ++ cmd s.cfg s.cfg.codes.writeLut s.cfg.lut ++
        [.uPhase .ready] }) ∧
    (s.phase = .ready →
      exec .close s = .next { s with polls := 0, seq := [.uClose, .uPhase .unpowered] } ∧
      (∀ c, exec (.sendCommand c) s = .next { s with
        polls := 0, seq := [.uDc .low, .uCs .low, .uWrImm [c], .uCs .high] }) ∧
      exec .waitIdle s = .next { s with polls := 0, seq := [.uPoll] } ∧
      (∀ xs ys xe ye, exec (.setWindow xs ys xe ye) s = .next { s with
        polls := 0,
        seq := [.uSetWin xs ys xe ye] ++ cmd s.cfg s.cfg.codes.setRamXRange [col xs, col xe] ++
          cmd s.cfg s.cfg.codes.setRamYRange [lo8 ys, hi8 ys, lo8 ye, hi8 ye] }) ∧
      (∀ x y, exec (.setCursor x y) s = .next { s with
        polls := 0,
        seq := [.uSetCur x y] ++ cmd s.cfg s.cfg.codes.setRamXCounter [col x] ++
          cmd s.cfg s.cfg.codes.setRamYCounter [lo8 y, hi8 y] ++ [.uPoll] }) ∧
      exec .turnOnDisplay s = .next { s with
        polls := 0,
        seq := cmd s.cfg s.cfg.codes.displayUpdate2 [s.cfg.actFlags] ++ frameC s.cfg.codes.masterActivation ++
          frameC s.cfg.codes.terminateFrame ++ [.uPoll] })

/-- R166, R170, R213, R215: each host operation with operand registers, in phase `Ready`, is accepted with its registers
written and its expansion loaded, or ends at once where the rule says so; nothing else changes. -/
def Obligations.OperationsWithRegistersAreAccepted : Prop :=
  ∀ s : State, s.idle = true → s.phase = .ready →
    (∀ n : Half, 1 ≤ n.toNat → n.toNat ≤ s.cfg.paySize → exec (.sendData n) s = .next { s with
      polls := 0, plen := .value n, seq := [.uDc .high, .uCs .low, .uWrPay n.toNat, .uCs .high] }) ∧
    (∀ n : Half, n.toNat = 0 ∨ s.cfg.paySize < n.toNat → exec (.sendData n) s = .next { s with
      flags := { s.flags with illegalReq := true } }) ∧
    (∀ w h : Half, exec (.pack w h) s = .next { s with
      polls := 0, imgw := .value w, imgh := .value h, seq := [.uPack] }) ∧
    (∀ w h : Half, exec (.display w h true) s = .next { s with
      polls := 0, imgw := .value w, imgh := .value h,
      seq := opsSetWindow s.cfg 0 0 (lastColumn s.cfg) (lastRow s.cfg) ++ [.uPack] ++
        (List.range s.cfg.height).flatMap (fun j => opsSetCursor s.cfg 0 (BitVec.ofNat 16 j) ++
          frameC s.cfg.codes.writeRam ++ [.uDc .high, .uCs .low, .uWrRow j, .uCs .high]) ++
        opsTurnOnDisplay s.cfg }) ∧
    (∀ f : Byte, exec (.clear f) s = .next { s with
      polls := 0, fill := .value f,
      seq := opsSetWindow s.cfg 0 0 (lastColumn s.cfg) (lastRow s.cfg) ++
        (List.range s.cfg.height).flatMap (fun j => opsSetCursor s.cfg 0 (BitVec.ofNat 16 j) ++
          frameC s.cfg.codes.writeRam ++ [.uDc .high, .uCs .low, .uWrFill s.cfg.wb, .uCs .high]) ++
        opsTurnOnDisplay s.cfg })

/-- R217: "`DISPLAY null` emits no event of any kind"; R213: it sets `NULL_IMAGE` and changes nothing else. -/
def Obligations.NullDisplayEmitsNothing : Prop :=
  ∀ (s : State) (w h : Half), s.idle = true → s.phase = .ready →
    ∃ t, exec (.display w h false) s = .next t ∧ t.trace = s.trace ∧ t.idle = true ∧
      t = { s with flags := { s.flags with nullImage := true } }

/-- R136 to R142, R185, R186, R188, R189, R205 to R208: each panel command, presented to an idle PDC in phase `Ready`,
is accepted with the frames of its code and payload, and nothing else changes. That it can be presented by itself is the
model's choice (log entry 4). -/
def Obligations.PanelCommandsAreAccepted : Prop :=
  ∀ s : State, s.idle = true → s.phase = .ready →
    let c := s.cfg
    exec .cmdDriverOutput s = .next { s with
      seq := cmd c c.codes.driverOutput [lo8 (lastRow c), hi8 (lastRow c), 0x00] } ∧
    exec .cmdBoosterSoftStart s = .next { s with seq := cmd c c.codes.boosterSoftStart [0xD7, 0xD6, 0x9D] } ∧
    exec .cmdWriteVcom s = .next { s with seq := cmd c c.codes.writeVcom [0xA8] } ∧
    exec .cmdDummyLinePeriod s = .next { s with seq := cmd c c.codes.dummyLinePeriod [0x1A] } ∧
    exec .cmdGateLineWidth s = .next { s with seq := cmd c c.codes.gateLineWidth [0x08] } ∧
    exec .cmdDataEntryMode s = .next { s with seq := cmd c c.codes.dataEntryMode [0x03] } ∧
    exec .cmdWriteLut s = .next { s with seq := cmd c c.codes.writeLut c.lut } ∧
    (∀ a b, exec (.cmdSetRamXRange a b) s = .next { s with seq := cmd c c.codes.setRamXRange [a, b] }) ∧
    (∀ ys ye, exec (.cmdSetRamYRange ys ye) s = .next { s with
      seq := cmd c c.codes.setRamYRange [lo8 ys, hi8 ys, lo8 ye, hi8 ye] }) ∧
    (∀ a, exec (.cmdSetRamXCounter a) s = .next { s with seq := cmd c c.codes.setRamXCounter [a] }) ∧
    (∀ y, exec (.cmdSetRamYCounter y) s = .next { s with seq := cmd c c.codes.setRamYCounter [lo8 y, hi8 y] }) ∧
    (∀ row, exec (.cmdWriteRam row) s = .next { s with
      seq := frameC c.codes.writeRam ++ [.uDc .high, .uCs .low, .uWrImm row, .uCs .high] }) ∧
    exec .cmdDisplayUpdate2 s = .next { s with seq := cmd c c.codes.displayUpdate2 [c.actFlags] } ∧
    exec .cmdMasterActivation s = .next { s with seq := frameC c.codes.masterActivation } ∧
    exec .cmdTerminateFrame s = .next { s with seq := frameC c.codes.terminateFrame }

/-- The frame of acceptance, for every instruction (R97, R22 to R24, R32, R61 to R63): no byte of a memory, no line, no
window or cursor register, no event and no phase changes, and an operand register changes only by the operation that
owns it. -/
def Obligations.AcceptanceFrame : Prop :=
  ∀ (s t : State) (i : Instr), exec i s = .next t →
    t.cfg = s.cfg ∧ t.phase = s.phase ∧ t.halt = s.halt ∧ t.cause = s.cause ∧ t.trace = s.trace ∧
    t.rst = s.rst ∧ t.dc = s.dc ∧ t.cs = s.cs ∧ t.xs = s.xs ∧ t.xe = s.xe ∧ t.ys = s.ys ∧ t.ye = s.ye ∧
    t.cx = s.cx ∧ t.cy = s.cy ∧ t.orient = s.orient ∧
    (∀ (sp : Space) (a : Nat), Memory.read (t.mem sp) a = Memory.read (s.mem sp) a) ∧
    (t.fill ≠ s.fill → ∃ f, i = .clear f) ∧
    (t.imgw ≠ s.imgw ∨ t.imgh ≠ s.imgh → ∃ w h, i = .display w h true ∨ i = .pack w h) ∧
    (t.plen ≠ s.plen → ∃ n, i = .sendData n) ∧
    (t.flags.dimMismatch = s.flags.dimMismatch) ∧
    t.host = s.host ∧ t.openAns = s.openAns ∧ t.abortAns = s.abortAns ∧ t.busyAns = s.busyAns ∧ t.draws = s.draws

/-! ## Micro-operations -/

/-- R150, R232: `uOPEN` emits the environment's answer and halts with `SetupFailure` on a 0. -/
def Obligations.OpenAnswersOrHalts : Prop :=
  ∀ s : State,
    (s.opensNow = true → perform .uOpen s = .next (s.drawnOpen.emit (.open true))) ∧
    (s.opensNow = false → perform .uOpen s = .next { s.drawnOpen.emit (.open false) with
      halt := true, cause := .setupFailure, seq := [] })

/-- R155 to R158, R233: each write micro-operation emits one `WR` of its bytes, or halts with `TransportAbort` and emits
nothing. -/
def Obligations.WritesEmitOrAbort : Prop :=
  ∀ s : State,
    let writes := fun (m : MicroOp) (bytes : List Byte) =>
      (s.abortsNow = false → perform m s = .next (s.drawnAbort.emit (.wr bytes))) ∧
      (s.abortsNow = true → perform m s = .next { s.drawnAbort with
        halt := true, cause := .transportAbort, seq := [] })
    (∀ bytes, writes (.uWrImm bytes) bytes) ∧
    (∀ j, j < s.cfg.height → writes (.uWrRow j) (s.bytesAt .buf (j * s.cfg.wb) s.cfg.wb)) ∧
    (∀ (n : Nat) (f : Byte), s.fill = .value f → writes (.uWrFill n) (List.replicate n f)) ∧
    (∀ n, n ≤ s.cfg.paySize → writes (.uWrPay n) (s.bytesAt .pay 0 n))

/-- R151 to R154, R159: `uCLOSE`, the three line micro-operations and `uSLEEP` emit their event, each line's latch takes
the level driven, and the event is emitted "even when the latch already holds" the level. -/
def Obligations.LinesAndSleeps : Prop :=
  ∀ s : State,
    perform .uClose s = .next { s with trace := s.trace ++ [.close] } ∧
    (∀ l, perform (.uRst l) s = .next { s with trace := s.trace ++ [.rst l], rst := .driven l }) ∧
    (∀ l, perform (.uDc l) s = .next { s with trace := s.trace ++ [.dc l], dc := .driven l }) ∧
    (∀ l, perform (.uCs l) s = .next { s with trace := s.trace ++ [.cs l], cs := .driven l }) ∧
    (∀ n, perform (.uSleep n) s = .next { s with trace := s.trace ++ [.sleep n] })

/-- R160, R161: `uPHASE`, `uSETWIN` and `uSETCUR` write their registers, with no event and no fault. -/
def Obligations.RegisterMicroOperations : Prop :=
  ∀ s : State,
    (∀ p, perform (.uPhase p) s = .next { s with phase := p }) ∧
    (∀ xs ys xe ye, perform (.uSetWin xs ys xe ye) s = .next { s with
      xs := .value xs, ys := .value ys, xe := .value xe, ye := .value ye }) ∧
    (∀ x y, perform (.uSetCur x y) s = .next { s with cx := .value x, cy := .value y })

/-- R201: `uPOLL`. -/
def Obligations.PollRule : Prop :=
  ∀ s : State,
    (s.busyNow = false → perform .uPoll s = .next { s.drawnBusy.emit (.busy .low) with polls := 0 }) ∧
    (s.busyNow = true → (∃ n, s.cfg.busyTimeoutPolls = some n ∧ n ≤ s.polls + 1) →
      perform .uPoll s = .next { s.drawnBusy.emit (.busy .high) with
        polls := s.polls + 1, halt := true, cause := .controllerUnresponsive, seq := [] }) ∧
    (s.busyNow = true → (∀ n, s.cfg.busyTimeoutPolls = some n → s.polls + 1 < n) →
      perform .uPoll s = .next { s.drawnBusy.emit (.busy .high) with
        polls := s.polls + 1, seq := .uSleep s.cfg.tPoll :: .uPoll :: s.seq })

/-- R163: the payload of a command is one data frame, or one per byte when `FRAME_PER_BYTE`; a command of no payload is
its command frame; "The byte stream is the same for both values of `FRAME_PER_BYTE`". -/
def Obligations.FramePerByteKeepsTheByteStream : Prop :=
  ∀ (c : Config) (code b : Byte) (bs : List Byte) (l : Latch),
    cmd c code [] = [.uDc .low, .uCs .low, .uWrImm [code], .uCs .high] ∧
    (c.framePerByte = false → cmd c code (b :: bs) =
      [.uDc .low, .uCs .low, .uWrImm [code], .uCs .high, .uDc .high, .uCs .low, .uWrImm (b :: bs), .uCs .high]) ∧
    (c.framePerByte = true → cmd c code (b :: bs) =
      [.uDc .low, .uCs .low, .uWrImm [code], .uCs .high] ++
        (b :: bs).flatMap fun x => [.uDc .high, .uCs .low, .uWrImm [x], .uCs .high]) ∧
    byteStreamFrom l (commandEvents { c with framePerByte := true } code (b :: bs)) =
      byteStreamFrom l (commandEvents { c with framePerByte := false } code (b :: bs))

/-- R236, R240: what raising a fault does, and that a halted PDC has no step, accepts nothing, shows `STAT.IDLE = 0` and
`STAT.HALT = 1`, and is the end of no completed operation. That "no step" is the fault `halted` and "accepts no request"
the refusal `notIdle` is the model's choice (log entries 7 and 8). -/
def Obligations.FaultsHaltForGood : Prop :=
  (∀ (c : Cause) (s : State), s.raise c = { s with halt := true, cause := c, seq := [] }) ∧
  (∀ s : State, s.cfg.legal = true → s.halt = true →
    step s = .fault (.halted s.cause) ∧ (∀ i, exec i s = .refused .notIdle) ∧
    s.stat.getLsbD 2 = false ∧ s.stat.getLsbD 3 = true ∧ (∀ r, ¬ Completes r s))

/-! ## Promises about every step -/

/-- R17, R39, D32: a step appends at most one event to the trace. -/
def Obligations.AtMostOneEventPerStep : Prop :=
  ∀ s t : State, step s = .next t → t.trace = s.trace ∨ ∃ e, t.trace = s.trace ++ [e]

/-- R30: the flags are sticky; no step clears one. -/
def Obligations.FlagsAreSticky : Prop :=
  ∀ s t : State, step s = .next t →
    (s.flags.nullImage = true → t.flags.nullImage = true) ∧
    (s.flags.dimMismatch = true → t.flags.dimMismatch = true) ∧
    (s.flags.illegalReq = true → t.flags.illegalReq = true) ∧
    (s.flags.notReady = true → t.flags.notReady = true)

/-- R21, R62, R63, R82, R143: no step changes a parameter, and `IMG` and `PAY` change only by the host's own writes,
which it makes while the PDC is idle (R84). Such a write leaves its bytes from address 0 on and every other byte as it
was, and changes nothing else (R112; that the rest is kept is the model's reading, log entry 19). -/
def Obligations.ParametersAndHostMemoriesAreKept : Prop :=
  (∀ s t : State, step s = .next t →
    t.cfg = s.cfg ∧
    (t.img ≠ s.img → s.idle = true ∧ ∃ bytes rest, s.host = .writeImg bytes :: rest) ∧
    (t.pay ≠ s.pay → s.idle = true ∧ ∃ bytes rest, s.host = .writePay bytes :: rest)) ∧
  (∀ (s : State) (bytes : List Byte) (rest : List HostMove), s.cfg.legal = true → s.idle = true →
    (s.host = .writeImg bytes :: rest →
      ∃ img, step s = .next { s with host := rest, img := img } ∧
        ∀ a, Memory.read img a = if a < bytes.length then bytes[a]? else Memory.read s.img a) ∧
    (s.host = .writePay bytes :: rest → bytes.length ≤ s.cfg.paySize →
      ∃ pay, step s = .next { s with host := rest, pay := pay } ∧
        ∀ a, Memory.read pay a = if a < bytes.length then bytes[a]? else Memory.read s.pay a))

/-- R22 to R24, R26, R27, R29 to R32, R61, R110: the micro-operation that writes each register, latch and memory, or the
acceptance of a request that the host presents, is the only step that changes it; only `uOPEN`, a write and `uPOLL` may
halt, and only `uPOLL` puts anything back into `SEQ`. -/
def Obligations.OnlyItsMicroOperationWritesARegister : Prop :=
  ∀ s t : State, step s = .next t →
    let accepts := s.idle = true ∧ ∃ w rest, s.host = .present w :: rest
    (t.buf ≠ s.buf ∨ t.orient ≠ s.orient → s.seq.head? = some .uPack) ∧
    (t.xs ≠ s.xs ∨ t.ys ≠ s.ys ∨ t.xe ≠ s.xe ∨ t.ye ≠ s.ye → ∃ xs ys xe ye, s.seq.head? = some (.uSetWin xs ys xe ye)) ∧
    (t.cx ≠ s.cx ∨ t.cy ≠ s.cy → ∃ x y, s.seq.head? = some (.uSetCur x y)) ∧
    (t.phase ≠ s.phase → ∃ p, s.seq.head? = some (.uPhase p)) ∧
    (t.rst ≠ s.rst → ∃ l, s.seq.head? = some (.uRst l)) ∧
    (t.dc ≠ s.dc → ∃ l, s.seq.head? = some (.uDc l)) ∧
    (t.cs ≠ s.cs → ∃ l, s.seq.head? = some (.uCs l)) ∧
    (t.fill ≠ s.fill ∨ t.imgw ≠ s.imgw ∨ t.imgh ≠ s.imgh ∨ t.plen ≠ s.plen → accepts) ∧
    (t.flags.nullImage ≠ s.flags.nullImage ∨ t.flags.illegalReq ≠ s.flags.illegalReq ∨
      t.flags.notReady ≠ s.flags.notReady → accepts) ∧
    (t.flags.dimMismatch ≠ s.flags.dimMismatch → s.seq.head? = some .uPack) ∧
    (t.polls ≠ s.polls → s.seq.head? = some .uPoll ∨ accepts) ∧
    (t.seq ≠ s.seq.tail → s.seq.head? = some .uPoll ∨ t.halt = true ∨ accepts) ∧
    (t.halt ≠ s.halt ∨ t.cause ≠ s.cause →
      ∃ m, s.seq.head? = some m ∧ (m = .uOpen ∨ m.isWrite = true ∨ m = .uPoll))

/-! ## Invariants -/

/-- R165: from every state whose trace and pending micro-operations keep the framing invariants, a step leads to such a
state. -/
def Obligations.StepKeepsFraming : Prop :=
  ∀ s t : State, s.WellFramed → step s = .next t → t.WellFramed

/-- R165 items 1 to 4 and 7, from the invariant: every `WR` of the trace stands right after the `CS(0)` of its frame and
the `DC` event that gives the frame's kind, carries one byte in a command frame, and is followed by the frame's `CS(1)`
or, while the frame is open, by nothing. -/
def Obligations.EveryWriteIsInItsFrame : Prop :=
  ∀ (s : State) (before after : List Event) (bytes : List Byte), s.WellFramed →
    s.trace = before ++ .wr bytes :: after →
    ∃ l front, before = front ++ [.dc l, .cs .low] ∧ bytes ≠ [] ∧ (l = .low → bytes.length = 1) ∧
      (after = [] ∨ ∃ tail, after = .cs .high :: tail)

/-- R32: from every state whose latches hold the levels last driven, a step leads to such a state. -/
def Obligations.StepKeepsLatches : Prop :=
  ∀ s t : State, s.LatchesAgree → step s = .next t → t.LatchesAgree

/-- R60, R61, R63, R176: from every state whose memories are in canonical form and inside their spaces, a step leads to
such a state. -/
def Obligations.StepKeepsMemories : Prop :=
  ∀ s t : State, s.MemoriesOk → step s = .next t → t.MemoriesOk

/-- R31, R236: from every state in which `CAUSE` is 0 until a fault and a fault has emptied `SEQ`, a step leads to such
a state. -/
def Obligations.StepKeepsHaltAndCause : Prop :=
  ∀ s t : State, s.HaltOk → step s = .next t → t.HaltOk

/-- R223: "All addresses are in range by construction, so no access faults": the invariant, and that in a state that
meets it only the host's own write past the end of `PAY` is stopped for its address. -/
def Obligations.NoAccessFaults : Prop :=
  (∀ s t : State, s.InRange → step s = .next t → t.InRange) ∧
  (∀ (s : State) (sp : Space) (a : Nat), s.InRange → step s = .fault (.noSuchAddress sp a) →
    s.idle = true ∧ ∃ bytes rest, s.host = .writePay bytes :: rest ∧ s.cfg.paySize < bytes.length)

/-- R29, R130: from every state in which the pending micro-operations lead to `Unpowered` or `Ready`, entering `Ready`
last, a step leads to such a state; and a step enters `Ready` only when nothing of `INIT` is left. -/
def Obligations.ReadyOnlyAfterTheFullSequence : Prop :=
  ∀ s t : State, s.PhaseOk → s.ReadyComesLast → step s = .next t →
    t.PhaseOk ∧ t.ReadyComesLast ∧ (s.phase ≠ .ready → t.phase = .ready → t.idle = true)

/-- The power-on state of every legal configuration meets the invariants (R40; for the reference instance it is
State.reset, log entry 2). -/
def Obligations.PowerOnMeetsTheInvariants : Prop :=
  (∀ c : Config, let s := State.powerOn c
    s.WellFramed ∧ s.LatchesAgree ∧ s.MemoriesOk ∧ s.HaltOk ∧ s.InRange ∧ s.PhaseOk ∧ s.ReadyComesLast) ∧
  Config.reference.legal = true ∧ State.reset = State.powerOn Config.reference

/-- R40: what power-on leaves, with no byte of `BUF` holding a value, and `STAT` reading idle in phase `Unpowered`. -/
def Obligations.PowerOnState : Prop :=
  ∀ c : Config, let s := State.powerOn c
    s.cfg = c ∧ s.phase = .unpowered ∧ s.halt = false ∧ s.cause = .none ∧
    s.flags.bits = 0 ∧ s.seq = [] ∧ s.polls = 0 ∧
    s.rst = .undriven ∧ s.dc = .undriven ∧ s.cs = .undriven ∧
    s.xs = .noValue ∧ s.xe = .noValue ∧ s.ys = .noValue ∧ s.ye = .noValue ∧ s.cx = .noValue ∧ s.cy = .noValue ∧
    s.fill = .noValue ∧ s.imgw = .noValue ∧ s.imgh = .noValue ∧ s.plen = .noValue ∧ s.orient = .noValue ∧
    (∀ a, Memory.read s.buf a = none) ∧ s.trace = [] ∧ s.stat = 0x0004

/-- R33: the fields of `STAT`. -/
def Obligations.StatFields : Prop :=
  ∀ s : State,
    s.stat.extractLsb' 0 2 = s.phase.code ∧
    s.stat.getLsbD 2 = decide (s.seq = [] ∧ s.halt = false) ∧
    s.stat.getLsbD 3 = s.halt ∧
    s.stat.extractLsb' 4 2 = s.cause.code ∧
    s.stat.extractLsb' 6 2 = 0 ∧
    s.stat.getLsbD 8 = s.flags.nullImage ∧ s.stat.getLsbD 9 = s.flags.dimMismatch ∧
    s.stat.getLsbD 10 = s.flags.illegalReq ∧ s.stat.getLsbD 11 = s.flags.notReady ∧
    (s.orient = .noValue → s.stat.extractLsb' 12 2 = 0) ∧
    (∀ o, s.orient = .value o → s.stat.extractLsb' 12 2 = o.code) ∧
    s.stat.extractLsb' 14 2 = 0

/-! ## Whole operations -/

/-- R134, R131, R133: `INIT` with a transport that opens and never aborts sends the pulse and the seven commands and ends
in phase `Ready`; nothing else changes. -/
def Obligations.InitSendsThePulseAndTheSevenCommands : Prop :=
  ∀ s : State, s.IdleIn .unpowered → s.opensNow = true → s.NeverAborts →
    ∃ a t, exec .init s = .next a ∧ Completes a t ∧
      t.apartFromAnswers = State.apartFromAnswers { s with
        polls := 0, phase := .ready, rst := .driven .high, dc := .driven .high, cs := .driven .high,
        trace := s.trace ++ [.open true] ++ resetPulseEvents s.cfg ++ configureEvents s.cfg }

/-- R135: `CLOSE` emits the one event `CLOSE` and returns to `Unpowered`; the lines keep their levels. -/
def Obligations.CloseReturnsToUnpowered : Prop :=
  ∀ s : State, s.IdleIn .ready →
    ∃ a t, exec .close s = .next a ∧ Completes a t ∧
      t.apartFromAnswers = State.apartFromAnswers { s with
        polls := 0, phase := .unpowered, trace := s.trace ++ [.close] }

/-- R164, R166: `SEND_COMMAND` is one command frame and `SEND_DATA` one data frame of the first bytes of `PAY`, whatever
`FRAME_PER_BYTE` is; nothing else changes. -/
def Obligations.PrimitivesSendOneFrame : Prop :=
  ∀ s : State, s.IdleIn .ready → s.NeverAborts →
    (∀ c, ∃ a t, exec (.sendCommand c) s = .next a ∧ Completes a t ∧
      t.apartFromAnswers = State.apartFromAnswers { s with
        polls := 0, dc := .driven .low, cs := .driven .high, trace := s.trace ++ commandFrame c }) ∧
    (∀ n : Half, 1 ≤ n.toNat → n.toNat ≤ s.cfg.paySize → ∃ a t, exec (.sendData n) s = .next a ∧ Completes a t ∧
      t.apartFromAnswers = State.apartFromAnswers { s with
        polls := 0, plen := .value n, dc := .driven .high, cs := .driven .high,
        trace := s.trace ++ dataFrame (s.bytesAt .pay 0 n.toNat) })

/-- R202: `WAIT_IDLE` with `k` busy answers emits `k` times `BUSY?=1 SLEEP(T_POLL)`, then `BUSY?=0`; nothing else
changes. -/
def Obligations.WaitIdleTrace : Prop :=
  ∀ (s : State) (k : Nat), s.IdleIn .ready → s.BusyTimes k → s.Patient k →
    ∃ a t, exec .waitIdle s = .next a ∧ Completes a t ∧
      t.apartFromAnswers = State.apartFromAnswers { s with polls := 0, trace := s.trace ++ waitEvents s.cfg k }

/-- R203, R237, C5: the hang. With a busy line that always reads 1 and no timeout, `WAIT_IDLE` polls for ever: after any
number of rounds it is still polling, not halted and not idle. -/
def Obligations.WaitCanHang : Prop :=
  ∀ s : State, s.IdleIn .ready → s.AlwaysBusy → s.cfg.busyTimeoutPolls = none →
    ∃ a, exec .waitIdle s = .next a ∧ ∀ n, ∃ t, Steps (2 * n) a t ∧ t.halt = false ∧ t.idle = false ∧
      t.polls = n ∧ t.trace = s.trace ++ (List.replicate n [Event.busy .high, .sleep s.cfg.tPoll]).flatten

/-- R201, R231, R234: with `BUSY_TIMEOUT_POLLS = N`, the `N`-th consecutive busy answer halts the PDC with
`ControllerUnresponsive`, `POLLS = N` and a trace that ends with `BUSY?=1`. -/
def Obligations.TimeoutHalts : Prop :=
  ∀ (s : State) (n : Nat), s.IdleIn .ready → s.AlwaysBusy → s.cfg.busyTimeoutPolls = some (n + 1) →
    ∃ a k t, exec .waitIdle s = .next a ∧ Steps k a t ∧
      t.apartFromAnswers = State.apartFromAnswers { s with
        halt := true, cause := .controllerUnresponsive, polls := n + 1, seq := [],
        trace := s.trace ++ (List.replicate n [Event.busy .high, .sleep s.cfg.tPoll]).flatten ++ [.busy .high] }

/-- R187: `SET_WINDOW` sends the x command, then the y command, keeps the operands unshifted, and polls nothing. -/
def Obligations.SetWindowTrace : Prop :=
  ∀ (s : State) (xs ys xe ye : Half), s.IdleIn .ready → s.NeverAborts →
    ∃ a t, exec (.setWindow xs ys xe ye) s = .next a ∧ Completes a t ∧
      t.apartFromAnswers = State.apartFromAnswers { s with
        polls := 0, xs := .value xs, ys := .value ys, xe := .value xe, ye := .value ye,
        dc := .driven .high, cs := .driven .high, trace := s.trace ++ windowEvents s.cfg xs ys xe ye }

/-- R190: `SET_CURSOR` sends the x command, then the y command, then polls until the busy line reads 0. -/
def Obligations.SetCursorTrace : Prop :=
  ∀ (s : State) (x y : Half) (k : Nat), s.IdleIn .ready → s.NeverAborts → s.BusyTimes k → s.Patient k →
    ∃ a t, exec (.setCursor x y) s = .next a ∧ Completes a t ∧
      t.apartFromAnswers = State.apartFromAnswers { s with
        polls := 0, cx := .value x, cy := .value y, dc := .driven .high, cs := .driven .high,
        trace := s.trace ++ cursorEvents s.cfg x y ++ waitEvents s.cfg k }

/-- R209: `TURN_ON_DISPLAY` sends its three commands and polls until the busy line reads 0. -/
def Obligations.TurnOnDisplayTrace : Prop :=
  ∀ (s : State) (k : Nat), s.IdleIn .ready → s.NeverAborts → s.BusyTimes k → s.Patient k →
    ∃ a t, exec .turnOnDisplay s = .next a ∧ Completes a t ∧
      t.apartFromAnswers = State.apartFromAnswers { s with
        polls := 0, dc := .driven .low, cs := .driven .high,
        trace := s.trace ++ activationEvents s.cfg ++ waitEvents s.cfg k }

/-- R215, R210, R192: `CLEAR f`, the busy line always idle: the window once, every row's cursor, poll, command and one
frame of `WB` copies of `f`, the activation and its poll. `BUF` and `IMG` are untouched. -/
def Obligations.ClearStreamsTheFillByte : Prop :=
  ∀ (s : State) (f : Byte), s.IdleIn .ready → s.NeverAborts → s.AlwaysIdle →
    ∃ a t, exec (.clear f) s = .next a ∧ Completes a t ∧
      t.apartFromAnswers = State.apartFromAnswers { s with
        polls := 0, fill := .value f, xs := .value 0, ys := .value 0, xe := .value (lastColumn s.cfg),
        ye := .value (lastRow s.cfg), cx := .value 0, cy := .value (lastRow s.cfg), dc := .driven .low,
        cs := .driven .high, trace := s.trace ++ streamEvents s.cfg (fun _ => List.replicate s.cfg.wb f) }

/-- R213, R210, R192: `DISPLAY`, the busy line always idle: as `CLEAR`, with `BUF` packed from the image and row `j`'s
frame the `WB` bytes of `BUF` from `j * WB`. -/
def Obligations.DisplayStreamsThePackedImage : Prop :=
  ∀ (s : State) (w h : Half), s.IdleIn .ready → s.NeverAborts → s.AlwaysIdle →
    let p := State.packImage { s with imgw := .value w, imgh := .value h }
    ∃ a t, exec (.display w h true) s = .next a ∧ Completes a t ∧
      t.apartFromAnswers = State.apartFromAnswers { p with
        polls := 0, xs := .value 0, ys := .value 0, xe := .value (lastColumn s.cfg), ye := .value (lastRow s.cfg),
        cx := .value 0, cy := .value (lastRow s.cfg), dc := .driven .low, cs := .driven .high,
        trace := s.trace ++ streamEvents s.cfg (fun j => p.bytesAt .buf (j * s.cfg.wb) s.cfg.wb) }

/-- R170, R173: `PACK` packs the image, emits nothing, and changes only `BUF`, `ORIENT`, `DIM_MISMATCH`, `IMGW`, `IMGH`
and `POLLS`. -/
def Obligations.PackEmitsNothing : Prop :=
  ∀ (s : State) (w h : Half), s.IdleIn .ready →
    let p := State.packImage { s with imgw := .value w, imgh := .value h }
    ∃ a t, exec (.pack w h) s = .next a ∧ Completes a t ∧ t.trace = s.trace ∧
      t.apartFromAnswers = State.apartFromAnswers { p with polls := 0 } ∧
      p = { s with
        imgw := .value w, imgh := .value h, buf := p.buf, orient := p.orient,
        flags := { s.flags with dimMismatch := p.flags.dimMismatch } }

/-- R113: with `FRAME_PER_BYTE = false` the trace of a composite equals "the trace of its expansion issued as separate
requests with the payloads in `PAY`", where `PAY` is large enough for them, the transport never aborts and the busy line
is always idle. -/
def Obligations.CompositesAreTheirPrimitives : Prop :=
  ∀ (s : State) (i : Instr) (moves : List HostMove), s.IdleIn .ready → s.cfg.framePerByte = false →
    4 ≤ s.cfg.paySize → s.cfg.wb ≤ s.cfg.paySize → s.NeverAborts → s.AlwaysIdle → unrolled s i = some moves →
    ∃ m n t u,
      Steps m { s with host := [.present (encode s.cfg i)] } t ∧ t.idle = true ∧ t.host = [] ∧
      Steps n { s with host := moves } u ∧ u.idle = true ∧ u.host = [] ∧ t.trace = u.trace ∧ t.buf = u.buf

/-- R136 to R142, R185, R186, R188, R189, R205 to R208: each panel command sends its frames; the line latches and the
trace change and nothing else does. -/
def Obligations.PanelCommandTraces : Prop :=
  ∀ (s : State) (i : Instr) (es : List Event), s.IdleIn .ready → s.NeverAborts → i.wf s.cfg = true →
    panelEvents s.cfg i = some es →
    ∃ a t, exec i s = .next a ∧ Completes a t ∧
      t.apartFromAnswers = State.apartFromAnswers { s with
        dc := es.foldl dcAfter s.dc, cs := .driven .high, trace := s.trace ++ es }

/-- R237: "`INIT`, `SEND_COMMAND`, `SEND_DATA`, `SET_WINDOW`, `PACK` and `CLOSE` always complete or halt in a bounded
number of steps", whatever the environment answers: at most one step for each micro-operation of the expansion. The
panel commands do too. -/
def Obligations.OperationsWithoutAWaitEnd : Prop :=
  ∀ (s a : State) (i : Instr), s.cfg.legal = true → exec i s = .next a →
    (i ∉ [.waitIdle, .turnOnDisplay] ∧ (∀ x y, i ≠ .setCursor x y) ∧ (∀ w h p, i ≠ .display w h p) ∧
      (∀ f, i ≠ .clear f)) →
    ∃ n t, n ≤ a.seq.length ∧ Steps n a t ∧ (t.idle = true ∨ t.halt = true)

/-- R155, R231, R233: when a write aborts, no `WR` is recorded, the trace ends with the `CS(0)` that opened the frame,
the frame stays open with chip-select low, and the PDC halts with `TransportAbort`. First of every write micro-operation,
in every state that meets the framing and latch invariants; then of `SEND_COMMAND` from its acceptance on. -/
def Obligations.AbortLeavesTheFrameOpen : Prop :=
  (∀ (s : State) (m : MicroOp) (rest : List MicroOp), s.cfg.legal = true → s.halt = false → s.seq = m :: rest →
    m.isWrite = true → m.inRange s.cfg → s.WellFramed → s.LatchesAgree → s.abortsNow = true →
    step s = .next { s.drawnAbort with halt := true, cause := .transportAbort, seq := [] } ∧
      s.cs = .driven .low ∧ (∃ front l, s.dc = .driven l ∧ s.trace = front ++ [.dc l, .cs .low]) ∧
      s.openFrame = some { kind := s.dc, writes := 0, bytes := [] }) ∧
  (∀ (s : State) (c : Byte), s.IdleIn .ready → s.abortsNow = true →
    ∃ a t, exec (.sendCommand c) s = .next a ∧ Steps 3 a t ∧
      t.apartFromAnswers = State.apartFromAnswers { s with
        polls := 0, halt := true, cause := .transportAbort, dc := .driven .low, cs := .driven .low,
        trace := s.trace ++ [.dc .low, .cs .low] })

/-- R232: when the transport does not open, `INIT` halts at its first micro-operation with `SetupFailure`; `PHASE` stays
`Unpowered`, no line is driven, and the trace ends with `OPEN(0)`. -/
def Obligations.SetupFailureHaltsInit : Prop :=
  ∀ s : State, s.IdleIn .unpowered → s.opensNow = false →
    ∃ a t, exec .init s = .next a ∧ Steps 1 a t ∧
      t.apartFromAnswers = State.apartFromAnswers { s with
        polls := 0, halt := true, cause := .setupFailure, trace := s.trace ++ [.open false] }

/-- R213, R210, R216: the counts of `CLEAR` and of `DISPLAY` with an image, the busy line always idle and
`FRAME_PER_BYTE = false`: the events that a completed operation has added to the trace number `16 + 25*HEIGHT + 17`, and
they hold `8 + (6 + WB)*HEIGHT + 4` bytes, `HEIGHT + 1` busy reads and `4 + 6*HEIGHT + 4` frames. -/
def Obligations.StreamCounts : Prop :=
  ∀ s : State, s.IdleIn .ready → s.NeverAborts → s.AlwaysIdle → s.cfg.framePerByte = false →
    let counted := fun i : Instr => ∃ a t es, exec i s = .next a ∧ Completes a t ∧ t.trace = s.trace ++ es ∧
      es.length = 16 + 25 * s.cfg.height + 17 ∧
      (es.flatMap bytesOf).length = 8 + (6 + s.cfg.wb) * s.cfg.height + 4 ∧
      es.countP isBusyRead = s.cfg.height + 1 ∧
      (scanFrames es).closed.length = 4 + 6 * s.cfg.height + 4
    (∀ f, counted (.clear f)) ∧ (∀ w h, counted (.display w h true))

/-- R191: the x operands of `SET_CURSOR` and `SET_WINDOW` reach the wire shifted right by exactly 3: operands of one
column give the same events and differ only in the registers. -/
def Obligations.UnalignedXIsTruncated : Prop :=
  ∀ (c : Config) (x x' z z' y y' : Half), x >>> 3 = x' >>> 3 → z >>> 3 = z' >>> 3 →
    cursorEvents c x y = cursorEvents c x' y ∧
    windowEvents c x y z y' = windowEvents c x' y z' y' ∧
    (opsSetCursor c x y).tail = (opsSetCursor c x' y).tail ∧
    (opsSetCursor c x y).head? = some (.uSetCur x y) ∧
    (opsSetWindow c x y z y').tail = (opsSetWindow c x' y z' y').tail ∧
    (opsSetWindow c x y z y').head? = some (.uSetWin x y z y') ∧
    (col x).toNat = x.toNat / 8 % 256

/-! ## Packing -/

/-- R175: after `uPACK` with an orientation, bit `px + py * WIDTH` of `BUF` is 0 exactly when the source pixel
`src(px, py)` has luma 0, and 1 otherwise; and `src` is a bijection between panel pixels and source pixels. -/
def Obligations.PackedBitsAreTheSourcePixels : Prop :=
  ∀ (s : State) (o : Orient), s.cfg.legal = true → s.packImage.orient = .value o → o ≠ .none →
    (∀ px py, px < s.cfg.width → py < s.cfg.height →
      ∃ b, Memory.read s.packImage.buf ((px + py * s.cfg.width) / 8) = some b ∧
        (b &&& pixelMask ((px + py * s.cfg.width) % 8) = 0 ↔
          s.luma (sourcePixel s.cfg o (px, py)).1 (sourcePixel s.cfg o (px, py)).2 = 0)) ∧
    (∀ px py, px < s.cfg.width → py < s.cfg.height →
      (sourcePixel s.cfg o (px, py)).1 < s.imgwVal ∧ (sourcePixel s.cfg o (px, py)).2 < s.imghVal) ∧
    (∀ x y, x < s.imgwVal → y < s.imghVal →
      ∃! p : Nat × Nat, p.1 < s.cfg.width ∧ p.2 < s.cfg.height ∧ sourcePixel s.cfg o p = (x, y))

/-- R171, R172, R174, R178: which orientation `uPACK` chooses, aligned first, and that it sets `DIM_MISMATCH` exactly
when it chooses none. -/
def Obligations.OrientationChoice : Prop :=
  ∀ (s : State) (w h : Half), s.imgw = .value w → s.imgh = .value h →
    let aligned := w.toNat = s.cfg.width ∧ h.toNat = s.cfg.height
    let rotated := w.toNat = s.cfg.height ∧ h.toNat = s.cfg.width
    (aligned → s.packImage.orient = .value .aligned ∧ s.packImage.flags = s.flags) ∧
    (¬ aligned → rotated → s.packImage.orient = .value .rotated ∧ s.packImage.flags = s.flags) ∧
    (¬ aligned → ¬ rotated → s.packImage.orient = .value .none ∧
      s.packImage.flags = { s.flags with dimMismatch := true })

/-- R174, R177 items 1 and 2: where neither orientation holds, and where no pixel of the image is black, every byte of
`BUF` is `0xFF`; `BUF` is exactly the bytes `0 .. BUFLEN-1`. -/
def Obligations.WhiteImagesPackToAllOnes : Prop :=
  ∀ s : State, s.cfg.legal = true →
    (s.packImage.orient = .value .none ∨ s.AllWhite) →
    ∀ a, Memory.read s.packImage.buf a = if a < s.cfg.buflen then some 0xFF else none

/-- R177 item 3: one black pixel at `(x, y)` of an aligned image clears exactly one bit, bit `0x80 >> (x % 8)` of byte
`(x + y * WIDTH) / 8`. -/
def Obligations.OneBlackPixelClearsOneBit : Prop :=
  ∀ (s : State) (x y : Nat), s.cfg.legal = true → s.packImage.orient = .value .aligned →
    x < s.cfg.width → y < s.cfg.height →
    (∀ i j, i < s.cfg.width → j < s.cfg.height → (s.luma i j = 0 ↔ i = x ∧ j = y)) →
    ∀ a, Memory.read s.packImage.buf a =
      if a = (x + y * s.cfg.width) / 8 then some (0xFF &&& ~~~(pixelMask (x % 8)))
      else if a < s.cfg.buflen then some 0xFF else none

/-- R218: where the image matches neither orientation or has no black pixel, `DISPLAY` and `CLEAR 0xFF` have the same
traces under the same answers of the environment, whatever those are: each trace of one is a trace of the other. The
host makes no further move. -/
def Obligations.WhiteDisplayIsClear : Prop :=
  ∀ (s : State) (w h : Half), s.IdleIn .ready → s.host = [] →
    let p := State.packImage { s with imgw := .value w, imgh := .value h }
    (p.orient = .value .none ∨ p.AllWhite) →
    ∃ a b, exec (.display w h true) s = .next a ∧ exec (.clear 0xFF) s = .next b ∧
      (∀ n t, Steps n a t → ∃ m u, Steps m b u ∧ u.trace = t.trace) ∧
      (∀ n u, Steps n b u → ∃ m t, Steps m a t ∧ t.trace = u.trace)

/-- R75, under the informative model of the panel controller, which is the model's (log entries 13 and 23 to 29): after
`CLEAR f` every cell of the panel's RAM inside the window holds `f`, and the panel shows that RAM (R74). -/
def Obligations.ClearFillsThePanelRam : Prop :=
  ∀ (s : State) (f : Byte), s.IdleIn .ready → s.NeverAborts → s.AlwaysIdle →
    ∃ a t, exec (.clear f) s = .next a ∧ Completes a t ∧
      (∀ column row, column < s.cfg.wb → row < s.cfg.height →
        Memory.read t.panel.pram (pramKey column row) = some f) ∧
      t.panel.shown = some t.panel.pram
end

