-- ==== Sys2Proof/Laws/State.lean ====
section
/-! SUPPORT. Laws/State.lean: what each update of the state does to each field, so that no proof unfolds a record
update. -/

namespace Sys2Proof.Machine

/-! ## `emit E` (R17) -/

@[simp] theorem State.emit_cfg (e : Event) (s : State) : (s.emit e).cfg = s.cfg := rfl
@[simp] theorem State.emit_phase (e : Event) (s : State) : (s.emit e).phase = s.phase := rfl
@[simp] theorem State.emit_halt (e : Event) (s : State) : (s.emit e).halt = s.halt := rfl
@[simp] theorem State.emit_cause (e : Event) (s : State) : (s.emit e).cause = s.cause := rfl
@[simp] theorem State.emit_flags (e : Event) (s : State) : (s.emit e).flags = s.flags := rfl
@[simp] theorem State.emit_seq (e : Event) (s : State) : (s.emit e).seq = s.seq := rfl
@[simp] theorem State.emit_polls (e : Event) (s : State) : (s.emit e).polls = s.polls := rfl
@[simp] theorem State.emit_rst (e : Event) (s : State) : (s.emit e).rst = s.rst := rfl
@[simp] theorem State.emit_dc (e : Event) (s : State) : (s.emit e).dc = s.dc := rfl
@[simp] theorem State.emit_cs (e : Event) (s : State) : (s.emit e).cs = s.cs := rfl
@[simp] theorem State.emit_xs (e : Event) (s : State) : (s.emit e).xs = s.xs := rfl
@[simp] theorem State.emit_xe (e : Event) (s : State) : (s.emit e).xe = s.xe := rfl
@[simp] theorem State.emit_ys (e : Event) (s : State) : (s.emit e).ys = s.ys := rfl
@[simp] theorem State.emit_ye (e : Event) (s : State) : (s.emit e).ye = s.ye := rfl
@[simp] theorem State.emit_cx (e : Event) (s : State) : (s.emit e).cx = s.cx := rfl
@[simp] theorem State.emit_cy (e : Event) (s : State) : (s.emit e).cy = s.cy := rfl
@[simp] theorem State.emit_fill (e : Event) (s : State) : (s.emit e).fill = s.fill := rfl
@[simp] theorem State.emit_imgw (e : Event) (s : State) : (s.emit e).imgw = s.imgw := rfl
@[simp] theorem State.emit_imgh (e : Event) (s : State) : (s.emit e).imgh = s.imgh := rfl
@[simp] theorem State.emit_plen (e : Event) (s : State) : (s.emit e).plen = s.plen := rfl
@[simp] theorem State.emit_orient (e : Event) (s : State) : (s.emit e).orient = s.orient := rfl
@[simp] theorem State.emit_buf (e : Event) (s : State) : (s.emit e).buf = s.buf := rfl
@[simp] theorem State.emit_img (e : Event) (s : State) : (s.emit e).img = s.img := rfl
@[simp] theorem State.emit_pay (e : Event) (s : State) : (s.emit e).pay = s.pay := rfl
@[simp] theorem State.emit_trace (e : Event) (s : State) : (s.emit e).trace = s.trace ++ [e] := rfl
@[simp] theorem State.emit_host (e : Event) (s : State) : (s.emit e).host = s.host := rfl
@[simp] theorem State.emit_openAns (e : Event) (s : State) : (s.emit e).openAns = s.openAns := rfl
@[simp] theorem State.emit_abortAns (e : Event) (s : State) : (s.emit e).abortAns = s.abortAns := rfl
@[simp] theorem State.emit_busyAns (e : Event) (s : State) : (s.emit e).busyAns = s.busyAns := rfl
@[simp] theorem State.emit_draws (e : Event) (s : State) : (s.emit e).draws = s.draws := rfl

/-! ## `raise Fault(c)` (R236) -/

@[simp] theorem State.raise_cfg (c : Cause) (s : State) : (s.raise c).cfg = s.cfg := rfl
@[simp] theorem State.raise_phase (c : Cause) (s : State) : (s.raise c).phase = s.phase := rfl
@[simp] theorem State.raise_halt (c : Cause) (s : State) : (s.raise c).halt = true := rfl
@[simp] theorem State.raise_cause (c : Cause) (s : State) : (s.raise c).cause = c := rfl
@[simp] theorem State.raise_flags (c : Cause) (s : State) : (s.raise c).flags = s.flags := rfl
@[simp] theorem State.raise_seq (c : Cause) (s : State) : (s.raise c).seq = [] := rfl
@[simp] theorem State.raise_polls (c : Cause) (s : State) : (s.raise c).polls = s.polls := rfl
@[simp] theorem State.raise_rst (c : Cause) (s : State) : (s.raise c).rst = s.rst := rfl
@[simp] theorem State.raise_dc (c : Cause) (s : State) : (s.raise c).dc = s.dc := rfl
@[simp] theorem State.raise_cs (c : Cause) (s : State) : (s.raise c).cs = s.cs := rfl
@[simp] theorem State.raise_xs (c : Cause) (s : State) : (s.raise c).xs = s.xs := rfl
@[simp] theorem State.raise_xe (c : Cause) (s : State) : (s.raise c).xe = s.xe := rfl
@[simp] theorem State.raise_ys (c : Cause) (s : State) : (s.raise c).ys = s.ys := rfl
@[simp] theorem State.raise_ye (c : Cause) (s : State) : (s.raise c).ye = s.ye := rfl
@[simp] theorem State.raise_cx (c : Cause) (s : State) : (s.raise c).cx = s.cx := rfl
@[simp] theorem State.raise_cy (c : Cause) (s : State) : (s.raise c).cy = s.cy := rfl
@[simp] theorem State.raise_fill (c : Cause) (s : State) : (s.raise c).fill = s.fill := rfl
@[simp] theorem State.raise_imgw (c : Cause) (s : State) : (s.raise c).imgw = s.imgw := rfl
@[simp] theorem State.raise_imgh (c : Cause) (s : State) : (s.raise c).imgh = s.imgh := rfl
@[simp] theorem State.raise_plen (c : Cause) (s : State) : (s.raise c).plen = s.plen := rfl
@[simp] theorem State.raise_orient (c : Cause) (s : State) : (s.raise c).orient = s.orient := rfl
@[simp] theorem State.raise_buf (c : Cause) (s : State) : (s.raise c).buf = s.buf := rfl
@[simp] theorem State.raise_img (c : Cause) (s : State) : (s.raise c).img = s.img := rfl
@[simp] theorem State.raise_pay (c : Cause) (s : State) : (s.raise c).pay = s.pay := rfl
@[simp] theorem State.raise_trace (c : Cause) (s : State) : (s.raise c).trace = s.trace := rfl
@[simp] theorem State.raise_host (c : Cause) (s : State) : (s.raise c).host = s.host := rfl
@[simp] theorem State.raise_openAns (c : Cause) (s : State) : (s.raise c).openAns = s.openAns := rfl
@[simp] theorem State.raise_abortAns (c : Cause) (s : State) : (s.raise c).abortAns = s.abortAns := rfl
@[simp] theorem State.raise_busyAns (c : Cause) (s : State) : (s.raise c).busyAns = s.busyAns := rfl
@[simp] theorem State.raise_draws (c : Cause) (s : State) : (s.raise c).draws = s.draws := rfl

/-! ## `flag F` (R30) -/

@[simp] theorem State.setFlag_cfg (f : Flag) (s : State) : (s.setFlag f).cfg = s.cfg := rfl
@[simp] theorem State.setFlag_phase (f : Flag) (s : State) : (s.setFlag f).phase = s.phase := rfl
@[simp] theorem State.setFlag_halt (f : Flag) (s : State) : (s.setFlag f).halt = s.halt := rfl
@[simp] theorem State.setFlag_cause (f : Flag) (s : State) : (s.setFlag f).cause = s.cause := rfl
@[simp] theorem State.setFlag_seq (f : Flag) (s : State) : (s.setFlag f).seq = s.seq := rfl
@[simp] theorem State.setFlag_polls (f : Flag) (s : State) : (s.setFlag f).polls = s.polls := rfl
@[simp] theorem State.setFlag_rst (f : Flag) (s : State) : (s.setFlag f).rst = s.rst := rfl
@[simp] theorem State.setFlag_dc (f : Flag) (s : State) : (s.setFlag f).dc = s.dc := rfl
@[simp] theorem State.setFlag_cs (f : Flag) (s : State) : (s.setFlag f).cs = s.cs := rfl
@[simp] theorem State.setFlag_xs (f : Flag) (s : State) : (s.setFlag f).xs = s.xs := rfl
@[simp] theorem State.setFlag_xe (f : Flag) (s : State) : (s.setFlag f).xe = s.xe := rfl
@[simp] theorem State.setFlag_ys (f : Flag) (s : State) : (s.setFlag f).ys = s.ys := rfl
@[simp] theorem State.setFlag_ye (f : Flag) (s : State) : (s.setFlag f).ye = s.ye := rfl
@[simp] theorem State.setFlag_cx (f : Flag) (s : State) : (s.setFlag f).cx = s.cx := rfl
@[simp] theorem State.setFlag_cy (f : Flag) (s : State) : (s.setFlag f).cy = s.cy := rfl
@[simp] theorem State.setFlag_fill (f : Flag) (s : State) : (s.setFlag f).fill = s.fill := rfl
@[simp] theorem State.setFlag_imgw (f : Flag) (s : State) : (s.setFlag f).imgw = s.imgw := rfl
@[simp] theorem State.setFlag_imgh (f : Flag) (s : State) : (s.setFlag f).imgh = s.imgh := rfl
@[simp] theorem State.setFlag_plen (f : Flag) (s : State) : (s.setFlag f).plen = s.plen := rfl
@[simp] theorem State.setFlag_orient (f : Flag) (s : State) : (s.setFlag f).orient = s.orient := rfl
@[simp] theorem State.setFlag_buf (f : Flag) (s : State) : (s.setFlag f).buf = s.buf := rfl
@[simp] theorem State.setFlag_img (f : Flag) (s : State) : (s.setFlag f).img = s.img := rfl
@[simp] theorem State.setFlag_pay (f : Flag) (s : State) : (s.setFlag f).pay = s.pay := rfl
@[simp] theorem State.setFlag_trace (f : Flag) (s : State) : (s.setFlag f).trace = s.trace := rfl
@[simp] theorem State.setFlag_host (f : Flag) (s : State) : (s.setFlag f).host = s.host := rfl
@[simp] theorem State.setFlag_openAns (f : Flag) (s : State) : (s.setFlag f).openAns = s.openAns := rfl
@[simp] theorem State.setFlag_abortAns (f : Flag) (s : State) : (s.setFlag f).abortAns = s.abortAns := rfl
@[simp] theorem State.setFlag_busyAns (f : Flag) (s : State) : (s.setFlag f).busyAns = s.busyAns := rfl
@[simp] theorem State.setFlag_draws (f : Flag) (s : State) : (s.setFlag f).draws = s.draws := rfl
@[simp] theorem State.setFlag_nullImage (f : Flag) (s : State) :
    (s.setFlag f).flags.nullImage = (s.flags.nullImage || decide (f = .nullImage)) := by cases f <;> simp [State.setFlag]
@[simp] theorem State.setFlag_dimMismatch (f : Flag) (s : State) :
    (s.setFlag f).flags.dimMismatch = (s.flags.dimMismatch || decide (f = .dimMismatch)) := by cases f <;> simp [State.setFlag]
@[simp] theorem State.setFlag_illegalReq (f : Flag) (s : State) :
    (s.setFlag f).flags.illegalReq = (s.flags.illegalReq || decide (f = .illegalReq)) := by cases f <;> simp [State.setFlag]
@[simp] theorem State.setFlag_notReady (f : Flag) (s : State) :
    (s.setFlag f).flags.notReady = (s.flags.notReady || decide (f = .notReady)) := by cases f <;> simp [State.setFlag]

/-! ## Loading an expansion (R97 step 5) -/

@[simp] theorem State.load_cfg (ops : List MicroOp) (s : State) : (s.load ops).cfg = s.cfg := rfl
@[simp] theorem State.load_phase (ops : List MicroOp) (s : State) : (s.load ops).phase = s.phase := rfl
@[simp] theorem State.load_halt (ops : List MicroOp) (s : State) : (s.load ops).halt = s.halt := rfl
@[simp] theorem State.load_cause (ops : List MicroOp) (s : State) : (s.load ops).cause = s.cause := rfl
@[simp] theorem State.load_flags (ops : List MicroOp) (s : State) : (s.load ops).flags = s.flags := rfl
@[simp] theorem State.load_seq (ops : List MicroOp) (s : State) : (s.load ops).seq = ops := rfl
@[simp] theorem State.load_polls (ops : List MicroOp) (s : State) : (s.load ops).polls = 0 := rfl
@[simp] theorem State.load_rst (ops : List MicroOp) (s : State) : (s.load ops).rst = s.rst := rfl
@[simp] theorem State.load_dc (ops : List MicroOp) (s : State) : (s.load ops).dc = s.dc := rfl
@[simp] theorem State.load_cs (ops : List MicroOp) (s : State) : (s.load ops).cs = s.cs := rfl
@[simp] theorem State.load_xs (ops : List MicroOp) (s : State) : (s.load ops).xs = s.xs := rfl
@[simp] theorem State.load_xe (ops : List MicroOp) (s : State) : (s.load ops).xe = s.xe := rfl
@[simp] theorem State.load_ys (ops : List MicroOp) (s : State) : (s.load ops).ys = s.ys := rfl
@[simp] theorem State.load_ye (ops : List MicroOp) (s : State) : (s.load ops).ye = s.ye := rfl
@[simp] theorem State.load_cx (ops : List MicroOp) (s : State) : (s.load ops).cx = s.cx := rfl
@[simp] theorem State.load_cy (ops : List MicroOp) (s : State) : (s.load ops).cy = s.cy := rfl
@[simp] theorem State.load_fill (ops : List MicroOp) (s : State) : (s.load ops).fill = s.fill := rfl
@[simp] theorem State.load_imgw (ops : List MicroOp) (s : State) : (s.load ops).imgw = s.imgw := rfl
@[simp] theorem State.load_imgh (ops : List MicroOp) (s : State) : (s.load ops).imgh = s.imgh := rfl
@[simp] theorem State.load_plen (ops : List MicroOp) (s : State) : (s.load ops).plen = s.plen := rfl
@[simp] theorem State.load_orient (ops : List MicroOp) (s : State) : (s.load ops).orient = s.orient := rfl
@[simp] theorem State.load_buf (ops : List MicroOp) (s : State) : (s.load ops).buf = s.buf := rfl
@[simp] theorem State.load_img (ops : List MicroOp) (s : State) : (s.load ops).img = s.img := rfl
@[simp] theorem State.load_pay (ops : List MicroOp) (s : State) : (s.load ops).pay = s.pay := rfl
@[simp] theorem State.load_trace (ops : List MicroOp) (s : State) : (s.load ops).trace = s.trace := rfl
@[simp] theorem State.load_host (ops : List MicroOp) (s : State) : (s.load ops).host = s.host := rfl
@[simp] theorem State.load_openAns (ops : List MicroOp) (s : State) : (s.load ops).openAns = s.openAns := rfl
@[simp] theorem State.load_abortAns (ops : List MicroOp) (s : State) : (s.load ops).abortAns = s.abortAns := rfl
@[simp] theorem State.load_busyAns (ops : List MicroOp) (s : State) : (s.load ops).busyAns = s.busyAns := rfl
@[simp] theorem State.load_draws (ops : List MicroOp) (s : State) : (s.load ops).draws = s.draws := rfl

/-! ## An answer to `open()` (R150) -/

@[simp] theorem State.drawnOpen_cfg (s : State) : s.drawnOpen.cfg = s.cfg := rfl
@[simp] theorem State.drawnOpen_phase (s : State) : s.drawnOpen.phase = s.phase := rfl
@[simp] theorem State.drawnOpen_halt (s : State) : s.drawnOpen.halt = s.halt := rfl
@[simp] theorem State.drawnOpen_cause (s : State) : s.drawnOpen.cause = s.cause := rfl
@[simp] theorem State.drawnOpen_flags (s : State) : s.drawnOpen.flags = s.flags := rfl
@[simp] theorem State.drawnOpen_seq (s : State) : s.drawnOpen.seq = s.seq := rfl
@[simp] theorem State.drawnOpen_polls (s : State) : s.drawnOpen.polls = s.polls := rfl
@[simp] theorem State.drawnOpen_rst (s : State) : s.drawnOpen.rst = s.rst := rfl
@[simp] theorem State.drawnOpen_dc (s : State) : s.drawnOpen.dc = s.dc := rfl
@[simp] theorem State.drawnOpen_cs (s : State) : s.drawnOpen.cs = s.cs := rfl
@[simp] theorem State.drawnOpen_xs (s : State) : s.drawnOpen.xs = s.xs := rfl
@[simp] theorem State.drawnOpen_xe (s : State) : s.drawnOpen.xe = s.xe := rfl
@[simp] theorem State.drawnOpen_ys (s : State) : s.drawnOpen.ys = s.ys := rfl
@[simp] theorem State.drawnOpen_ye (s : State) : s.drawnOpen.ye = s.ye := rfl
@[simp] theorem State.drawnOpen_cx (s : State) : s.drawnOpen.cx = s.cx := rfl
@[simp] theorem State.drawnOpen_cy (s : State) : s.drawnOpen.cy = s.cy := rfl
@[simp] theorem State.drawnOpen_fill (s : State) : s.drawnOpen.fill = s.fill := rfl
@[simp] theorem State.drawnOpen_imgw (s : State) : s.drawnOpen.imgw = s.imgw := rfl
@[simp] theorem State.drawnOpen_imgh (s : State) : s.drawnOpen.imgh = s.imgh := rfl
@[simp] theorem State.drawnOpen_plen (s : State) : s.drawnOpen.plen = s.plen := rfl
@[simp] theorem State.drawnOpen_orient (s : State) : s.drawnOpen.orient = s.orient := rfl
@[simp] theorem State.drawnOpen_buf (s : State) : s.drawnOpen.buf = s.buf := rfl
@[simp] theorem State.drawnOpen_img (s : State) : s.drawnOpen.img = s.img := rfl
@[simp] theorem State.drawnOpen_pay (s : State) : s.drawnOpen.pay = s.pay := rfl
@[simp] theorem State.drawnOpen_trace (s : State) : s.drawnOpen.trace = s.trace := rfl
@[simp] theorem State.drawnOpen_host (s : State) : s.drawnOpen.host = s.host := rfl
@[simp] theorem State.drawnOpen_openAns (s : State) : s.drawnOpen.openAns = s.openAns.later := rfl
@[simp] theorem State.drawnOpen_abortAns (s : State) : s.drawnOpen.abortAns = s.abortAns := rfl
@[simp] theorem State.drawnOpen_busyAns (s : State) : s.drawnOpen.busyAns = s.busyAns := rfl
@[simp] theorem State.drawnOpen_draws (s : State) : s.drawnOpen.draws = s.draws + 1 := rfl

/-! ## An answer to a write (R155) -/

@[simp] theorem State.drawnAbort_cfg (s : State) : s.drawnAbort.cfg = s.cfg := rfl
@[simp] theorem State.drawnAbort_phase (s : State) : s.drawnAbort.phase = s.phase := rfl
@[simp] theorem State.drawnAbort_halt (s : State) : s.drawnAbort.halt = s.halt := rfl
@[simp] theorem State.drawnAbort_cause (s : State) : s.drawnAbort.cause = s.cause := rfl
@[simp] theorem State.drawnAbort_flags (s : State) : s.drawnAbort.flags = s.flags := rfl
@[simp] theorem State.drawnAbort_seq (s : State) : s.drawnAbort.seq = s.seq := rfl
@[simp] theorem State.drawnAbort_polls (s : State) : s.drawnAbort.polls = s.polls := rfl
@[simp] theorem State.drawnAbort_rst (s : State) : s.drawnAbort.rst = s.rst := rfl
@[simp] theorem State.drawnAbort_dc (s : State) : s.drawnAbort.dc = s.dc := rfl
@[simp] theorem State.drawnAbort_cs (s : State) : s.drawnAbort.cs = s.cs := rfl
@[simp] theorem State.drawnAbort_xs (s : State) : s.drawnAbort.xs = s.xs := rfl
@[simp] theorem State.drawnAbort_xe (s : State) : s.drawnAbort.xe = s.xe := rfl
@[simp] theorem State.drawnAbort_ys (s : State) : s.drawnAbort.ys = s.ys := rfl
@[simp] theorem State.drawnAbort_ye (s : State) : s.drawnAbort.ye = s.ye := rfl
@[simp] theorem State.drawnAbort_cx (s : State) : s.drawnAbort.cx = s.cx := rfl
@[simp] theorem State.drawnAbort_cy (s : State) : s.drawnAbort.cy = s.cy := rfl
@[simp] theorem State.drawnAbort_fill (s : State) : s.drawnAbort.fill = s.fill := rfl
@[simp] theorem State.drawnAbort_imgw (s : State) : s.drawnAbort.imgw = s.imgw := rfl
@[simp] theorem State.drawnAbort_imgh (s : State) : s.drawnAbort.imgh = s.imgh := rfl
@[simp] theorem State.drawnAbort_plen (s : State) : s.drawnAbort.plen = s.plen := rfl
@[simp] theorem State.drawnAbort_orient (s : State) : s.drawnAbort.orient = s.orient := rfl
@[simp] theorem State.drawnAbort_buf (s : State) : s.drawnAbort.buf = s.buf := rfl
@[simp] theorem State.drawnAbort_img (s : State) : s.drawnAbort.img = s.img := rfl
@[simp] theorem State.drawnAbort_pay (s : State) : s.drawnAbort.pay = s.pay := rfl
@[simp] theorem State.drawnAbort_trace (s : State) : s.drawnAbort.trace = s.trace := rfl
@[simp] theorem State.drawnAbort_host (s : State) : s.drawnAbort.host = s.host := rfl
@[simp] theorem State.drawnAbort_openAns (s : State) : s.drawnAbort.openAns = s.openAns := rfl
@[simp] theorem State.drawnAbort_abortAns (s : State) : s.drawnAbort.abortAns = s.abortAns.later := rfl
@[simp] theorem State.drawnAbort_busyAns (s : State) : s.drawnAbort.busyAns = s.busyAns := rfl
@[simp] theorem State.drawnAbort_draws (s : State) : s.drawnAbort.draws = s.draws + 1 := rfl

/-! ## An answer to a sample of the busy line (R201) -/

@[simp] theorem State.drawnBusy_cfg (s : State) : s.drawnBusy.cfg = s.cfg := rfl
@[simp] theorem State.drawnBusy_phase (s : State) : s.drawnBusy.phase = s.phase := rfl
@[simp] theorem State.drawnBusy_halt (s : State) : s.drawnBusy.halt = s.halt := rfl
@[simp] theorem State.drawnBusy_cause (s : State) : s.drawnBusy.cause = s.cause := rfl
@[simp] theorem State.drawnBusy_flags (s : State) : s.drawnBusy.flags = s.flags := rfl
@[simp] theorem State.drawnBusy_seq (s : State) : s.drawnBusy.seq = s.seq := rfl
@[simp] theorem State.drawnBusy_polls (s : State) : s.drawnBusy.polls = s.polls := rfl
@[simp] theorem State.drawnBusy_rst (s : State) : s.drawnBusy.rst = s.rst := rfl
@[simp] theorem State.drawnBusy_dc (s : State) : s.drawnBusy.dc = s.dc := rfl
@[simp] theorem State.drawnBusy_cs (s : State) : s.drawnBusy.cs = s.cs := rfl
@[simp] theorem State.drawnBusy_xs (s : State) : s.drawnBusy.xs = s.xs := rfl
@[simp] theorem State.drawnBusy_xe (s : State) : s.drawnBusy.xe = s.xe := rfl
@[simp] theorem State.drawnBusy_ys (s : State) : s.drawnBusy.ys = s.ys := rfl
@[simp] theorem State.drawnBusy_ye (s : State) : s.drawnBusy.ye = s.ye := rfl
@[simp] theorem State.drawnBusy_cx (s : State) : s.drawnBusy.cx = s.cx := rfl
@[simp] theorem State.drawnBusy_cy (s : State) : s.drawnBusy.cy = s.cy := rfl
@[simp] theorem State.drawnBusy_fill (s : State) : s.drawnBusy.fill = s.fill := rfl
@[simp] theorem State.drawnBusy_imgw (s : State) : s.drawnBusy.imgw = s.imgw := rfl
@[simp] theorem State.drawnBusy_imgh (s : State) : s.drawnBusy.imgh = s.imgh := rfl
@[simp] theorem State.drawnBusy_plen (s : State) : s.drawnBusy.plen = s.plen := rfl
@[simp] theorem State.drawnBusy_orient (s : State) : s.drawnBusy.orient = s.orient := rfl
@[simp] theorem State.drawnBusy_buf (s : State) : s.drawnBusy.buf = s.buf := rfl
@[simp] theorem State.drawnBusy_img (s : State) : s.drawnBusy.img = s.img := rfl
@[simp] theorem State.drawnBusy_pay (s : State) : s.drawnBusy.pay = s.pay := rfl
@[simp] theorem State.drawnBusy_trace (s : State) : s.drawnBusy.trace = s.trace := rfl
@[simp] theorem State.drawnBusy_host (s : State) : s.drawnBusy.host = s.host := rfl
@[simp] theorem State.drawnBusy_openAns (s : State) : s.drawnBusy.openAns = s.openAns := rfl
@[simp] theorem State.drawnBusy_abortAns (s : State) : s.drawnBusy.abortAns = s.abortAns := rfl
@[simp] theorem State.drawnBusy_busyAns (s : State) : s.drawnBusy.busyAns = s.busyAns.later := rfl
@[simp] theorem State.drawnBusy_draws (s : State) : s.drawnBusy.draws = s.draws + 1 := rfl

/-! ## The state but for the answers -/

@[simp] theorem State.apartFromAnswers_cfg (s : State) : s.apartFromAnswers.cfg = s.cfg := rfl
@[simp] theorem State.apartFromAnswers_phase (s : State) : s.apartFromAnswers.phase = s.phase := rfl
@[simp] theorem State.apartFromAnswers_halt (s : State) : s.apartFromAnswers.halt = s.halt := rfl
@[simp] theorem State.apartFromAnswers_cause (s : State) : s.apartFromAnswers.cause = s.cause := rfl
@[simp] theorem State.apartFromAnswers_flags (s : State) : s.apartFromAnswers.flags = s.flags := rfl
@[simp] theorem State.apartFromAnswers_seq (s : State) : s.apartFromAnswers.seq = s.seq := rfl
@[simp] theorem State.apartFromAnswers_polls (s : State) : s.apartFromAnswers.polls = s.polls := rfl
@[simp] theorem State.apartFromAnswers_rst (s : State) : s.apartFromAnswers.rst = s.rst := rfl
@[simp] theorem State.apartFromAnswers_dc (s : State) : s.apartFromAnswers.dc = s.dc := rfl
@[simp] theorem State.apartFromAnswers_cs (s : State) : s.apartFromAnswers.cs = s.cs := rfl
@[simp] theorem State.apartFromAnswers_xs (s : State) : s.apartFromAnswers.xs = s.xs := rfl
@[simp] theorem State.apartFromAnswers_xe (s : State) : s.apartFromAnswers.xe = s.xe := rfl
@[simp] theorem State.apartFromAnswers_ys (s : State) : s.apartFromAnswers.ys = s.ys := rfl
@[simp] theorem State.apartFromAnswers_ye (s : State) : s.apartFromAnswers.ye = s.ye := rfl
@[simp] theorem State.apartFromAnswers_cx (s : State) : s.apartFromAnswers.cx = s.cx := rfl
@[simp] theorem State.apartFromAnswers_cy (s : State) : s.apartFromAnswers.cy = s.cy := rfl
@[simp] theorem State.apartFromAnswers_fill (s : State) : s.apartFromAnswers.fill = s.fill := rfl
@[simp] theorem State.apartFromAnswers_imgw (s : State) : s.apartFromAnswers.imgw = s.imgw := rfl
@[simp] theorem State.apartFromAnswers_imgh (s : State) : s.apartFromAnswers.imgh = s.imgh := rfl
@[simp] theorem State.apartFromAnswers_plen (s : State) : s.apartFromAnswers.plen = s.plen := rfl
@[simp] theorem State.apartFromAnswers_orient (s : State) : s.apartFromAnswers.orient = s.orient := rfl
@[simp] theorem State.apartFromAnswers_buf (s : State) : s.apartFromAnswers.buf = s.buf := rfl
@[simp] theorem State.apartFromAnswers_img (s : State) : s.apartFromAnswers.img = s.img := rfl
@[simp] theorem State.apartFromAnswers_pay (s : State) : s.apartFromAnswers.pay = s.pay := rfl
@[simp] theorem State.apartFromAnswers_trace (s : State) : s.apartFromAnswers.trace = s.trace := rfl
@[simp] theorem State.apartFromAnswers_host (s : State) : s.apartFromAnswers.host = s.host := rfl
@[simp] theorem State.apartFromAnswers_openAns (s : State) : s.apartFromAnswers.openAns = .free := rfl
@[simp] theorem State.apartFromAnswers_abortAns (s : State) : s.apartFromAnswers.abortAns = .free := rfl
@[simp] theorem State.apartFromAnswers_busyAns (s : State) : s.apartFromAnswers.busyAns = .free := rfl
@[simp] theorem State.apartFromAnswers_draws (s : State) : s.apartFromAnswers.draws = 0 := rfl

end Sys2Proof.Machine
end

