-- ==== Sys2Proof/Laws/Memory.lean ====
section
/-! SUPPORT. Laws/Memory.lean: the laws of the memories: a read after a write, the canonical form, the bounds of what is
listed. -/

namespace Sys2Proof.Machine

@[simp] theorem Memory.read_nil (a : Nat) : Memory.read [] a = none := rfl

@[simp] theorem Memory.read_cons (k : Nat) (v : Byte) (m : Memory) (a : Nat) :
    Memory.read ((k, v) :: m) a = if k = a then some v else Memory.read m a := rfl

/-- Reading what was just written. -/
@[simp] theorem Memory.read_write_same (m : Memory) (a : Nat) (b : Byte) :
    Memory.read (Memory.write m a b) a = some b := by
  induction m with
  | nil => simp [Memory.write]
  | cons x m ih =>
    obtain ⟨k, v⟩ := x
    unfold Memory.write
    split
    · simp
    · split
      · simp
      · rename_i h; simp [ih, Ne.symm h]

/-- A write leaves every other address alone. -/
theorem Memory.read_write_other {m : Memory} {a c : Nat} (b : Byte) (h : c ≠ a) :
    Memory.read (Memory.write m a b) c = Memory.read m c := by
  induction m with
  | nil => simp [Memory.write, Ne.symm h]
  | cons x m ih =>
    obtain ⟨k, v⟩ := x
    unfold Memory.write
    split
    · simp [Ne.symm h]
    · split
      · rename_i hk; subst hk; simp [Ne.symm h]
      · simp [ih]

/-- The addresses a write lists. -/
theorem Memory.mem_write {m : Memory} {a : Nat} {b : Byte} {x : Host.Cell} (h : x ∈ Memory.write m a b) :
    x = (a, b) ∨ x ∈ m := by
  induction m with
  | nil => simpa [Memory.write] using h
  | cons y m ih =>
    obtain ⟨k, v⟩ := y
    unfold Memory.write at h
    split at h
    · simpa using h
    · split at h
      · rcases List.mem_cons.1 h with h | h
        · exact .inl h
        · exact .inr (List.mem_cons_of_mem _ h)
      · rcases List.mem_cons.1 h with h | h
        · exact .inr (by simp [h])
        · exact (ih h).imp id (List.mem_cons_of_mem _)

/-- A write keeps the canonical form. -/
theorem Memory.wf_write {m : Memory} (h : Memory.wf m) (a : Nat) (b : Byte) : Memory.wf (Memory.write m a b) := by
  induction m with
  | nil => simp [Memory.write]
  | cons y m ih =>
    obtain ⟨k, v⟩ := y
    obtain ⟨hy, hm⟩ := List.pairwise_cons.1 h
    unfold Memory.write
    split
    · rename_i hk
      refine List.pairwise_cons.2 ⟨fun x hx => ?_, h⟩
      rcases List.mem_cons.1 hx with rfl | hx
      · exact hk
      · exact hk.trans (hy x hx)
    · split
      · rename_i hk
        subst hk
        exact List.pairwise_cons.2 ⟨hy, hm⟩
      · rename_i hlt hne
        refine List.pairwise_cons.2 ⟨fun x hx => ?_, ih hm⟩
        rcases Memory.mem_write hx with rfl | hx
        · exact (Nat.lt_or_gt_of_ne (Ne.symm hne)).resolve_right hlt
        · exact hy x hx

/-- A sequence of writes keeps the canonical form. -/
theorem Memory.wf_writeBytes {m : Memory} (h : Memory.wf m) (a : Nat) (bs : List Byte) :
    Memory.wf (Memory.writeBytes m a bs) := by
  induction bs generalizing m a with
  | nil => exact h
  | cons b bs ih => exact ih (Memory.wf_write h a b) (a + 1)

/-- The addresses a sequence of writes lists. -/
theorem Memory.mem_writeBytes {m : Memory} {a : Nat} {bs : List Byte} {x : Host.Cell}
    (h : x ∈ Memory.writeBytes m a bs) : (a ≤ x.1 ∧ x.1 < a + bs.length) ∨ x ∈ m := by
  induction bs generalizing m a with
  | nil => exact .inr h
  | cons b bs ih =>
    rcases ih h with ⟨h1, h2⟩ | h
    · left; simp only [List.length_cons]; omega
    · rcases Memory.mem_write h with rfl | h
      · left; simp
      · exact .inr h

/-- Reading what a sequence of writes wrote, and what it left alone. -/
theorem Memory.read_writeBytes (m : Memory) (a : Nat) (bs : List Byte) (c : Nat) :
    Memory.read (Memory.writeBytes m a bs) c = if c < a then Memory.read m c else (bs[c - a]?).or (Memory.read m c) := by
  induction bs generalizing m a with
  | nil => simp [Memory.writeBytes]
  | cons b bs ih =>
    rw [Memory.writeBytes, ih]
    rcases Nat.lt_trichotomy c a with h | rfl | h
    · rw [if_pos (by omega), if_pos h, Memory.read_write_other b (by omega)]
    · simp
    · rw [if_neg (by omega), if_neg (by omega), Memory.read_write_other b (by omega),
        show c - a = (c - (a + 1)) + 1 by omega]
      simp

/-- A filled memory is in canonical form. -/
theorem Memory.wf_filled (n : Nat) (b : Byte) : Memory.wf (Memory.filled n b) := by
  simpa [Memory.wf, Memory.filled, List.pairwise_map] using List.pairwise_lt_range

/-- Reading a filled memory. -/
theorem Memory.read_filled (n : Nat) (b : Byte) (a : Nat) :
    Memory.read (Memory.filled n b) a = if a < n then some b else none := by
  have key : ∀ l : List Nat, Memory.read (l.map fun i => (i, b)) a = if a ∈ l then some b else none := by
    intro l
    induction l with
    | nil => simp
    | cons x l ih => by_cases h : x = a <;> simp [ih, h, Ne.symm]
  simpa [Memory.filled] using key (List.range n)

/-- The addresses of a filled memory. -/
theorem Memory.mem_filled {n : Nat} {b : Byte} {x : Host.Cell} (h : x ∈ Memory.filled n b) : x.1 < n := by
  simp only [Memory.filled, List.mem_map, List.mem_range] at h
  obtain ⟨i, hi, rfl⟩ := h
  exact hi

/-- Clearing a bit keeps the canonical form. -/
theorem wf_clearBit {m : Memory} (h : Memory.wf m) (k : Nat) : Memory.wf (clearBit m k) :=
  Memory.wf_write h _ _

/-- Clearing a bit of a byte the buffer lists lists no other byte. -/
theorem mem_clearBit {m : Memory} {k : Nat} {x : Host.Cell} (h : x ∈ clearBit m k) : x.1 = k / 8 ∨ x ∈ m :=
  (Memory.mem_write h).imp (fun h => by rw [h]) id

/-- What `uPACK` leaves in `BUF` is in canonical form. -/
theorem wf_packed (s : State) (o : Orient) : Memory.wf (packed s o) := by
  have row : ∀ (l : List Nat) (y : Nat) (m : Memory), Memory.wf m → Memory.wf (l.foldl (packPixel s o y) m) := by
    intro l y
    induction l with
    | nil => exact fun m h => h
    | cons x l ih =>
      intro m h
      refine ih _ ?_
      unfold packPixel
      split
      · exact wf_clearBit h _
      · exact h
  have rows : ∀ (l : List Nat) (m : Memory), Memory.wf m → Memory.wf (l.foldl (packRow s o) m) := by
    intro l
    induction l with
    | nil => exact fun m h => h
    | cons y l ih => exact fun m h => ih _ (row _ y m h)
  cases o
  · exact Memory.wf_filled _ _
  · exact rows _ _ (Memory.wf_filled _ _)
  · exact rows _ _ (Memory.wf_filled _ _)

/-- The host's write of `PAY` keeps the canonical form of `PAY`. -/
theorem wf_writtenPay {bytes : List Byte} {s t : State} (h : writtenPay bytes s = .next t) (hw : Memory.wf s.pay) :
    Memory.wf t.pay := by
  unfold writtenPay at h
  split at h
  · cases h; exact Memory.wf_writeBytes hw _ _
  · cases h

/-- The number of bytes a read yields. -/
@[simp] theorem State.length_bytesAt (s : State) (sp : Space) (a n : Nat) : (s.bytesAt sp a n).length = n := by
  simp [State.bytesAt]

end Sys2Proof.Machine
end

