-- ==== Sys2Proof/Laws/Ops.lean ====
section
/-! SUPPORT. Laws/Ops.lean: one lemma for each shared operation, saying once everything it can do. -/

namespace Sys2Proof.Machine

/-! ## The environment's answers -/

/-- Where every answer is `b`, so is the next one. -/
theorem Answers.Only.now {b : Bool} {a : Answers} (h : a.Only b) (free : Bool) : a.now free = b := by
  obtain ⟨hs, hr⟩ := h
  unfold Answers.now
  cases hsc : a.script with
  | nil => simp [hr]
  | cons x xs => exact hs x (by simp [hsc])

/-- Where every answer is `b`, so is every later one. -/
theorem Answers.Only.later {b : Bool} {a : Answers} (h : a.Only b) : a.later.Only b :=
  ⟨fun x hx => h.1 x (List.mem_of_mem_tail hx), h.2⟩

/-- The next answer of a script. -/
theorem Answers.now_cons {a : Answers} {b : Bool} {bs : List Bool} (h : a.script = b :: bs) (free : Bool) :
    a.now free = b := by simp [Answers.now, h]

/-- A script when its next answer has been given. -/
@[simp] theorem Answers.later_script (a : Answers) : a.later.script = a.script.tail := rfl

@[simp] theorem Answers.later_rest (a : Answers) : a.later.rest = a.rest := rfl

/-! ## Micro-operations -/

/-- `uOPEN`: the event, and the fault where the transport does not open. -/
theorem performOpen_cases (s : State) :
    (s.opensNow = true ∧ performOpen s = s.drawnOpen.emit (.open true)) ∨
    (s.opensNow = false ∧ performOpen s = (s.drawnOpen.emit (.open false)).raise .setupFailure) := by
  unfold performOpen
  cases h : s.opensNow <;> simp

/-- A write: one event, or a fault and no event. -/
theorem performWrite_cases (bytes : List Byte) (s : State) :
    (s.abortsNow = false ∧ performWrite bytes s = s.drawnAbort.emit (.wr bytes)) ∨
    (s.abortsNow = true ∧ performWrite bytes s = s.drawnAbort.raise .transportAbort) := by
  unfold performWrite
  cases h : s.abortsNow <;> simp

/-- A write from a space: its bytes are the space's, and the access lies inside it. -/
theorem performWriteFrom_next {sp : Space} {a n : Nat} {s t : State} (h : performWriteFrom sp a n s = .next t) :
    a + n ≤ s.sizeOf sp ∧ t = performWrite (s.bytesAt sp a n) s := by
  unfold performWriteFrom at h
  split at h
  · cases h; exact ⟨‹_›, rfl⟩
  · cases h

/-- A write from inside a space goes on. -/
theorem performWriteFrom_of_le {sp : Space} {a n : Nat} {s : State} (h : a + n ≤ s.sizeOf sp) :
    performWriteFrom sp a n s = .next (performWrite (s.bytesAt sp a n) s) := if_pos h

/-- `uPOLL`: idle ends the wait; busy sleeps and polls again, or is one busy answer too many. -/
theorem performPoll_cases (s : State) :
    (s.busyNow = false ∧ performPoll s = { s.drawnBusy.emit (.busy .low) with polls := 0 }) ∨
    (s.busyNow = true ∧ timedOut s.cfg (s.polls + 1) = false ∧
      performPoll s = { s.drawnBusy.emit (.busy .high) with
        polls := s.polls + 1, seq := .uSleep s.cfg.tPoll :: .uPoll :: s.seq }) ∨
    (s.busyNow = true ∧ timedOut s.cfg (s.polls + 1) = true ∧
      performPoll s = ({ s.drawnBusy.emit (.busy .high) with polls := s.polls + 1 }).raise .controllerUnresponsive) := by
  unfold performPoll
  cases h : s.busyNow
  · simp
  · cases h2 : timedOut s.cfg (s.polls + 1) <;> simp [h2]

/-- `uPACK` changes the buffer, the orientation and the flags. -/
theorem packImage_eq (s : State) :
    s.packImage = { s with
      buf := packed s (orientation s.cfg s.imgwVal s.imghVal),
      orient := .value (orientation s.cfg s.imgwVal s.imghVal),
      flags := { s.flags with
        dimMismatch := (s.flags.dimMismatch || decide (orientation s.cfg s.imgwVal s.imghVal = .none)) } } := by
  unfold State.packImage
  cases h : orientation s.cfg s.imgwVal s.imghVal <;> simp [State.setFlag]

/-! ## Acceptance -/

/-- What acceptance does, in each of its three cases. -/
theorem accept_cases (need : Phase) (s : State) (go : State → Host.Outcome State Fault Refusal) :
    (s.idle = true ∧ s.phase = need ∧ accept need s go = go s) ∨
    (s.idle = true ∧ s.phase ≠ need ∧ accept need s go = .next (s.setFlag .notReady)) ∨
    (s.idle = false ∧ accept need s go = .refused .notIdle) := by
  unfold accept
  cases hi : s.idle
  · simp
  · by_cases hp : s.phase = need <;> simp [hp]

/-- Acceptance in the phase the instruction needs. -/
theorem accept_of_phase {need : Phase} {s : State} (hi : s.idle = true) (hp : s.phase = need)
    (go : State → Host.Outcome State Fault Refusal) : accept need s go = go s := by
  simp [accept, hi, hp]

/-- Acceptance in another phase. -/
theorem accept_notReady {need : Phase} {s : State} (hi : s.idle = true) (hp : s.phase ≠ need)
    (go : State → Host.Outcome State Fault Refusal) : accept need s go = .next (s.setFlag .notReady) := by
  simp [accept, hi, hp]

/-- When the PDC is idle. -/
theorem State.idle_iff (s : State) : s.idle = true ↔ s.seq = [] ∧ s.halt = false := by
  simp [State.idle]

/-! ## The step -/

/-- Everything a step to a next state can be: the PDC waits, performs a micro-operation, turns a word away, lets the
host write one of its memories, or executes the instruction presented. -/
theorem step_cases {s t : State} (h : step s = .next t) :
    s.cfg.legal = true ∧ s.halt = false ∧
    ((∃ m rest, s.seq = m :: rest ∧ perform m { s with seq := rest } = .next t) ∨
     (s.seq = [] ∧ s.host = [] ∧ t = s) ∨
     (∃ w rest e, s.seq = [] ∧ s.host = .present w :: rest ∧ decode s.cfg w = .error e ∧
       t = ({ s with host := rest }).setFlag .illegalReq) ∨
     (∃ w rest i, s.seq = [] ∧ s.host = .present w :: rest ∧ decode s.cfg w = .ok i ∧
       exec i { s with host := rest } = .next t) ∨
     (∃ bytes rest, s.seq = [] ∧ s.host = .writePay bytes :: rest ∧ bytes.length ≤ s.cfg.paySize ∧
       t = { s with host := rest, pay := Memory.writeBytes s.pay 0 bytes }) ∨
     (∃ bytes rest, s.seq = [] ∧ s.host = .writeImg bytes :: rest ∧
       t = { s with host := rest, img := Memory.writeBytes s.img 0 bytes })) := by
  unfold step fetch at h
  cases hl : s.cfg.legal
  · simp [hl] at h
  cases hh : s.halt
  · refine ⟨rfl, rfl, ?_⟩
    simp only [hl, hh, if_true] at h
    cases hs : s.seq with
    | cons m rest => exact .inl ⟨m, rest, rfl, by simpa [hs] using h⟩
    | nil =>
      cases ho : s.host with
      | nil => right; left; simpa [hs, ho, eq_comm] using h
      | cons m rest =>
        simp only [hs, ho] at h
        cases m with
        | present w =>
          simp only [hostMove, presented] at h
          cases hd : decode s.cfg w with
          | error e =>
            right; right; left
            exact ⟨w, rest, e, rfl, rfl, hd, by simpa [hd, eq_comm] using h⟩
          | ok i =>
            right; right; right; left
            exact ⟨w, rest, i, rfl, rfl, hd, by simpa [hd] using h⟩
        | writePay bytes =>
          right; right; right; right; left
          by_cases hb : bytes.length ≤ s.cfg.paySize
          · exact ⟨bytes, rest, rfl, rfl, hb, by simpa [hostMove, writtenPay, State.sizeOf, hb, eq_comm] using h⟩
          · simp [hostMove, writtenPay, State.sizeOf, hb] at h
        | writeImg bytes =>
          right; right; right; right; right
          exact ⟨bytes, rest, rfl, rfl, by simpa [hostMove, writtenImg, eq_comm] using h⟩
  · simp [hl, hh] at h

/-- An idle PDC executes the instruction the host presents. -/
theorem step_present {s : State} {w : CodeWord} {rest : List HostMove} {i : Instr} (hl : s.cfg.legal = true)
    (hi : s.idle = true) (ho : s.host = .present w :: rest) (hd : decode s.cfg w = .ok i) :
    step s = exec i { s with host := rest } := by
  obtain ⟨hs, hh⟩ := (State.idle_iff s).1 hi
  simp [step, fetch, hl, hh, hs, ho, hostMove, presented, hd]

/-- A busy PDC performs the head of `SEQ`. -/
theorem step_perform {s : State} {m : MicroOp} {rest : List MicroOp} (hl : s.cfg.legal = true)
    (hh : s.halt = false) (hs : s.seq = m :: rest) : step s = perform m { s with seq := rest } := by
  simp [step, fetch, hl, hh, hs]

/-- An idle PDC lets the host write `PAY`. -/
theorem step_writePay {s : State} {bytes : List Byte} {rest : List HostMove} (hl : s.cfg.legal = true)
    (hi : s.idle = true) (ho : s.host = .writePay bytes :: rest) (hb : bytes.length ≤ s.cfg.paySize) :
    step s = .next { s with host := rest, pay := Memory.writeBytes s.pay 0 bytes } := by
  obtain ⟨hs, hh⟩ := (State.idle_iff s).1 hi
  simp [step, fetch, hl, hh, hs, ho, hostMove, writtenPay, State.sizeOf, hb]

/-- An idle PDC lets the host write `IMG`. -/
theorem step_writeImg {s : State} {bytes : List Byte} {rest : List HostMove} (hl : s.cfg.legal = true)
    (hi : s.idle = true) (ho : s.host = .writeImg bytes :: rest) :
    step s = .next { s with host := rest, img := Memory.writeBytes s.img 0 bytes } := by
  obtain ⟨hs, hh⟩ := (State.idle_iff s).1 hi
  simp [step, fetch, hl, hh, hs, ho, hostMove, writtenImg]

/-- The instruction placed where the next step fetches is the one executed. -/
theorem step_withFetchWord {s : State} {nbits w : Nat} {i : Instr} (hl : s.cfg.legal = true)
    (hd : decode s.cfg (tableWord s.cfg nbits w) = .ok i) :
    step (s.withFetchWord nbits w) = exec i { s with seq := [], halt := false } := by
  rw [step_present (i := i) (rest := s.host) (by simpa [State.withFetchWord] using hl) rfl rfl
    (by simpa [State.withFetchWord] using hd)]
  rfl

end Sys2Proof.Machine
end

