-- ==== Sys2Proof/Laws/Exec.lean ====
section
/-! SUPPORT. Laws/Exec.lean: everything executing an instruction can do, said once. -/

namespace Sys2Proof.Machine

/-- The micro-operations of an accepted instruction. -/
def expansion (c : Config) : Instr → List MicroOp
  | .init => opsInit c
  | .sendCommand b => opsSendCommand b
  | .sendData n => opsSendData n.toNat
  | .waitIdle => opsWaitIdle
  | .setWindow xs ys xe ye => opsSetWindow c xs ys xe ye
  | .setCursor x y => opsSetCursor c x y
  | .turnOnDisplay => opsTurnOnDisplay c
  | .display _ _ _ => opsDisplay c
  | .clear _ => opsClear c
  | .close => opsClose
  | .pack _ _ => opsPack
  | .cmdDriverOutput => opsDriverOutput c
  | .cmdBoosterSoftStart => opsBoosterSoftStart c
  | .cmdWriteVcom => opsWriteVcom c
  | .cmdDummyLinePeriod => opsDummyLinePeriod c
  | .cmdGateLineWidth => opsGateLineWidth c
  | .cmdDataEntryMode => opsDataEntryMode c
  | .cmdWriteLut => opsWriteLut c
  | .cmdSetRamXRange a b => opsSetRamXRange a b c
  | .cmdSetRamYRange ys ye => opsSetRamYRange ys ye c
  | .cmdSetRamXCounter a => opsSetRamXCounter a c
  | .cmdSetRamYCounter y => opsSetRamYCounter y c
  | .cmdWriteRam row => opsWriteRam c.codes.writeRam (.uWrImm row)
  | .cmdDisplayUpdate2 => opsDisplayUpdate2 c
  | .cmdMasterActivation => opsMasterActivation c
  | .cmdTerminateFrame => opsTerminateFrame c

/-- The phase in which an instruction is accepted (R97 check 2). -/
def phaseNeeded (i : Instr) : Phase := if i = .init then .unpowered else .ready

/-- What acceptance writes besides `SEQ` (R97 step 5). -/
structure Accepted where
  polls : Nat
  plen  : Held Half
  fill  : Held Byte
  imgw  : Held Half
  imgh  : Held Half

/-- The operand registers acceptance leaves (R97 step 5). -/
def accepted (s : State) (i : Instr) : Accepted :=
  let kept : Accepted := { polls := 0, plen := s.plen, fill := s.fill, imgw := s.imgw, imgh := s.imgh }
  match i with
  | .sendData n => { kept with plen := .value n }
  | .clear f => { kept with fill := .value f }
  | .display w h _ => { kept with imgw := .value w, imgh := .value h }
  | .pack w h => { kept with imgw := .value w, imgh := .value h }
  | .init | .sendCommand _ | .waitIdle | .setWindow _ _ _ _ | .setCursor _ _ | .turnOnDisplay | .close => kept
  | .cmdDriverOutput | .cmdBoosterSoftStart | .cmdWriteVcom | .cmdDummyLinePeriod | .cmdGateLineWidth
  | .cmdDataEntryMode | .cmdWriteLut | .cmdSetRamXRange _ _ | .cmdSetRamYRange _ _ | .cmdSetRamXCounter _
  | .cmdSetRamYCounter _ | .cmdWriteRam _ | .cmdDisplayUpdate2 | .cmdMasterActivation | .cmdTerminateFrame =>
    { kept with polls := s.polls }

/-- The state an accepted instruction leaves. -/
def State.take (s : State) (i : Instr) : State :=
  { s with
    seq := expansion s.cfg i, polls := (accepted s i).polls, plen := (accepted s i).plen,
    fill := (accepted s i).fill, imgw := (accepted s i).imgw, imgh := (accepted s i).imgh }

/-- Why an instruction presented in its phase is turned away all the same: an illegal length (R97 check 3) or a null
image (R97 check 4). -/
def turnedAway (s : State) : Instr → Option Flag
  | .sendData n => if n = 0 ∨ s.cfg.paySize < n.toNat then some .illegalReq else none
  | .display _ _ present => if present then none else some .nullImage
  | .init | .sendCommand _ | .waitIdle | .setWindow _ _ _ _ | .setCursor _ _ | .turnOnDisplay | .clear _ | .close
  | .pack _ _ | .cmdDriverOutput | .cmdBoosterSoftStart | .cmdWriteVcom | .cmdDummyLinePeriod | .cmdGateLineWidth
  | .cmdDataEntryMode | .cmdWriteLut | .cmdSetRamXRange _ _ | .cmdSetRamYRange _ _ | .cmdSetRamXCounter _
  | .cmdSetRamYCounter _ | .cmdWriteRam _ | .cmdDisplayUpdate2 | .cmdMasterActivation | .cmdTerminateFrame => none

/-- exec, as one equation for every instruction. -/
theorem exec_eq (i : Instr) (s : State) : exec i s = accept (phaseNeeded i) s fun s =>
    match turnedAway s i with
    | some f => .next (s.setFlag f)
    | none => .next (s.take i) := by
  cases i
  case sendData n =>
    simp only [exec, execSendData, phaseNeeded, turnedAway, reduceCtorEq, if_false]
    congr 1
    funext s
    split <;> rfl
  case display w h present => cases present <;> rfl
  all_goals rfl

/-- Everything executing an instruction can do when it answers a next state: set one of three flags, or take the
instruction. -/
theorem exec_cases {i : Instr} {s t : State} (h : exec i s = .next t) : s.idle = true ∧
    ((∃ f, f ≠ .dimMismatch ∧ t = s.setFlag f) ∨
     (s.phase = phaseNeeded i ∧ turnedAway s i = none ∧ t = s.take i)) := by
  rw [exec_eq] at h
  rcases accept_cases (phaseNeeded i) s (fun s => match turnedAway s i with
    | some f => .next (s.setFlag f)
    | none => .next (s.take i)) with ⟨hi, hp, he⟩ | ⟨hi, -, he⟩ | ⟨-, he⟩
  · rw [he] at h
    refine ⟨hi, ?_⟩
    split at h
    · rename_i f hf
      cases h
      refine .inl ⟨f, ?_, rfl⟩
      rintro rfl
      unfold turnedAway at hf
      split at hf <;> first | cases hf | (split at hf <;> cases hf)
    · cases h; exact .inr ⟨hp, ‹_›, rfl⟩
  · rw [he] at h
    cases h
    exact ⟨hi, .inl ⟨.notReady, by decide, rfl⟩⟩
  · rw [he] at h; cases h

/-- An instruction presented in its phase, and not turned away, is taken. -/
theorem exec_of_phase {i : Instr} {s : State} (hi : s.idle = true) (hp : s.phase = phaseNeeded i)
    (ha : turnedAway s i = none) : exec i s = .next (s.take i) := by
  rw [exec_eq, accept_of_phase hi hp]
  simp [ha]

end Sys2Proof.Machine
end

