-- ==== Sys2Proof/Laws/PerInstr.lean ====
section
/-! SUPPORT. Laws/PerInstr.lean: statements about every instruction, one lemma for each constructor.
`TableCode` says that an instruction's word begins with the code its row of spec/opcode_table.json gives it: the
operation code in `req[7:0]` (R91, R92), or the command code, a parameter (R100), in the byte of the command frame. -/

namespace Sys2Proof.Laws.TableCode

/-- The byte of a word that names the instruction. -/
def codeByte : CodeWord → Option Byte
  | .request w => some (Request.op w)
  | .command bytes => bytes.head?

/-- The code that names the instruction (R92, R100). -/
def code (k : PanelCodes) : Instr → Byte
  | .init => 0x01
  | .sendCommand _ => 0x02
  | .sendData _ => 0x03
  | .waitIdle => 0x04
  | .setWindow _ _ _ _ => 0x05
  | .setCursor _ _ => 0x06
  | .turnOnDisplay => 0x07
  | .display _ _ _ => 0x08
  | .clear _ => 0x09
  | .close => 0x0A
  | .pack _ _ => 0x0B
  | .cmdDriverOutput => k.driverOutput
  | .cmdBoosterSoftStart => k.boosterSoftStart
  | .cmdWriteVcom => k.writeVcom
  | .cmdDummyLinePeriod => k.dummyLinePeriod
  | .cmdGateLineWidth => k.gateLineWidth
  | .cmdDataEntryMode => k.dataEntryMode
  | .cmdWriteLut => k.writeLut
  | .cmdSetRamXRange _ _ => k.setRamXRange
  | .cmdSetRamYRange _ _ => k.setRamYRange
  | .cmdSetRamXCounter _ => k.setRamXCounter
  | .cmdSetRamYCounter _ => k.setRamYCounter
  | .cmdWriteRam _ => k.writeRam
  | .cmdDisplayUpdate2 => k.displayUpdate2
  | .cmdMasterActivation => k.masterActivation
  | .cmdTerminateFrame => k.terminateFrame

/-- The word of `i` begins with the code that names `i`. -/
def Statement (i : Instr) : Prop := ∀ c : Config, codeByte (encode c i) = some (code c.codes i)

/-- The operation code of a made request is its `op` field (R91). -/
@[simp] theorem op_make (op : Byte) (a0 a1 a2 a3 : Half) : Request.op (Request.make op a0 a1 a2 a3) = op := by
  simp only [Request.op, Request.make]
  apply BitVec.eq_of_getLsbD_eq
  intro i hi
  simp [hi, show i < 72 by omega, show i < 24 by omega, show i < 40 by omega, show i < 56 by omega]

theorem init : Statement .init := fun _ => by simp [encode, codeByte, code]
theorem sendCommand (c : Byte) : Statement (.sendCommand c) := fun _ => by simp [encode, codeByte, code]
theorem sendData (n : Half) : Statement (.sendData n) := fun _ => by simp [encode, codeByte, code]
theorem waitIdle : Statement .waitIdle := fun _ => by simp [encode, codeByte, code]
theorem setWindow (xStart yStart xEnd yEnd : Half) : Statement (.setWindow xStart yStart xEnd yEnd) := fun _ => by
  simp [encode, codeByte, code]
theorem setCursor (x y : Half) : Statement (.setCursor x y) := fun _ => by simp [encode, codeByte, code]
theorem turnOnDisplay : Statement .turnOnDisplay := fun _ => by simp [encode, codeByte, code]
theorem display (imgw imgh : Half) (present : Bool) : Statement (.display imgw imgh present) := fun _ => by
  simp [encode, codeByte, code]
theorem clear (f : Byte) : Statement (.clear f) := fun _ => by simp [encode, codeByte, code]
theorem close : Statement .close := fun _ => by simp [encode, codeByte, code]
theorem pack (imgw imgh : Half) : Statement (.pack imgw imgh) := fun _ => by simp [encode, codeByte, code]
theorem cmdDriverOutput : Statement .cmdDriverOutput := fun _ => rfl
theorem cmdBoosterSoftStart : Statement .cmdBoosterSoftStart := fun _ => rfl
theorem cmdWriteVcom : Statement .cmdWriteVcom := fun _ => rfl
theorem cmdDummyLinePeriod : Statement .cmdDummyLinePeriod := fun _ => rfl
theorem cmdGateLineWidth : Statement .cmdGateLineWidth := fun _ => rfl
theorem cmdDataEntryMode : Statement .cmdDataEntryMode := fun _ => rfl
theorem cmdWriteLut : Statement .cmdWriteLut := fun _ => rfl
theorem cmdSetRamXRange (colStart colEnd : Byte) : Statement (.cmdSetRamXRange colStart colEnd) := fun _ => rfl
theorem cmdSetRamYRange (yStart yEnd : Half) : Statement (.cmdSetRamYRange yStart yEnd) := fun _ => rfl
theorem cmdSetRamXCounter (column : Byte) : Statement (.cmdSetRamXCounter column) := fun _ => rfl
theorem cmdSetRamYCounter (y : Half) : Statement (.cmdSetRamYCounter y) := fun _ => rfl
theorem cmdWriteRam (row : List Byte) : Statement (.cmdWriteRam row) := fun _ => rfl
theorem cmdDisplayUpdate2 : Statement .cmdDisplayUpdate2 := fun _ => rfl
theorem cmdMasterActivation : Statement .cmdMasterActivation := fun _ => rfl
theorem cmdTerminateFrame : Statement .cmdTerminateFrame := fun _ => rfl

end Sys2Proof.Laws.TableCode
end

