-- ==== Sys2Proof/Laws/Perform.lean ====
section
/-! SUPPORT. Laws/Perform.lean: everything performing a micro-operation can do, said once. -/

namespace Sys2Proof.Machine

/-- What performing `m` from `s` to `t` changes and what it leaves (R110). -/
structure Performed (m : MicroOp) (s t : State) : Prop where
  cfg    : t.cfg = s.cfg
  img    : t.img = s.img
  pay    : t.pay = s.pay
  host   : t.host = s.host
  fill   : t.fill = s.fill
  imgw   : t.imgw = s.imgw
  imgh   : t.imgh = s.imgh
  plen   : t.plen = s.plen
  /-- Only `uPACK` writes `BUF`, `ORIENT` and `FLAGS`. -/
  pack   : m ≠ .uPack → t.buf = s.buf ∧ t.orient = s.orient ∧ t.flags = s.flags
  /-- Only `uSETWIN` writes the window. -/
  window : (∀ xs ys xe ye, m ≠ .uSetWin xs ys xe ye) → t.xs = s.xs ∧ t.ys = s.ys ∧ t.xe = s.xe ∧ t.ye = s.ye
  /-- Only `uSETCUR` writes the cursor. -/
  cursor : (∀ x y, m ≠ .uSetCur x y) → t.cx = s.cx ∧ t.cy = s.cy
  phase  : (∀ p, m ≠ .uPhase p) → t.phase = s.phase
  rst    : (∀ l, m ≠ .uRst l) → t.rst = s.rst
  dc     : (∀ l, m ≠ .uDc l) → t.dc = s.dc
  cs     : (∀ l, m ≠ .uCs l) → t.cs = s.cs
  /-- At most one event. -/
  trace  : t.trace = s.trace ∨ ∃ e, t.trace = s.trace ++ [e]
  /-- A running PDC goes on, or is halted with a cause and an empty `SEQ` (R236). -/
  halt   : s.halt = false → (t.halt = false ∧ t.cause = s.cause) ∨ (t.halt = true ∧ t.cause ≠ .none ∧ t.seq = [])
  /-- Only `uOPEN`, the writes and `uPOLL` may halt (R110). -/
  halts  : m ≠ .uOpen → m.isWrite = false → m ≠ .uPoll → t.halt = s.halt ∧ t.cause = s.cause
  /-- Only `uPOLL` writes `POLLS`. -/
  polls  : m ≠ .uPoll → t.polls = s.polls
  /-- "Only the micro-operation `uPOLL` ever puts anything back" (R26). -/
  seq    : t.seq = s.seq ∨ (t.halt = true ∧ t.seq = []) ∨ (m = .uPoll ∧ t.seq = .uSleep s.cfg.tPoll :: .uPoll :: s.seq)

/-- A write is performed so, whatever micro-operation makes it. -/
theorem performed_write {m : MicroOp} (hm : m.isWrite = true) (bytes : List Byte) (s : State) :
    Performed m s (performWrite bytes s) := by
  rcases performWrite_cases bytes s with ⟨-, h⟩ | ⟨-, h⟩ <;> rw [h] <;> constructor <;> simp +contextual [hm]

/-- Every micro-operation is performed so. -/
theorem perform_performed {m : MicroOp} {s t : State} (h : perform m s = .next t) : Performed m s t := by
  cases m
  case uOpen =>
    cases h
    rcases performOpen_cases s with ⟨-, h⟩ | ⟨-, h⟩ <;> rw [h] <;> constructor <;> simp +contextual
  case uWrImm b => cases h; exact performed_write rfl _ s
  case uWrFill n => cases h; exact performed_write rfl _ s
  case uWrRow j => obtain ⟨-, rfl⟩ := performWriteFrom_next h; exact performed_write rfl _ s
  case uWrPay n => obtain ⟨-, rfl⟩ := performWriteFrom_next h; exact performed_write rfl _ s
  case uPoll =>
    cases h
    rcases performPoll_cases s with ⟨-, h⟩ | ⟨-, -, h⟩ | ⟨-, -, h⟩ <;> rw [h] <;> constructor <;> simp +contextual
  case uPack => cases h; rw [packImage_eq]; constructor <;> simp +contextual
  all_goals (cases h; constructor <;> simp +contextual)

/-- `FLAGS` loses no bit when a micro-operation is performed (R30). -/
theorem perform_flags {m : MicroOp} {s t : State} (h : perform m s = .next t) :
    t.flags = { s.flags with dimMismatch := t.flags.dimMismatch } ∧
      (s.flags.dimMismatch = true → t.flags.dimMismatch = true) := by
  by_cases hm : m = .uPack
  · subst hm; cases h; simp +contextual [packImage_eq]
  · rw [((perform_performed h).pack hm).2.2]; exact ⟨rfl, id⟩

end Sys2Proof.Machine
end

