-- ==== Sys2Proof/Laws/Run.lean ====
section
/-! SUPPORT. Laws/Run.lean: runs, put together from steps. -/

namespace Sys2Proof.Machine

/-- No step. -/
@[simp] theorem steps_zero {s t : State} : Steps 0 s t ↔ t = s := Iff.rfl

/-- A run begins with a step. -/
theorem steps_succ {n : Nat} {s u : State} : Steps (n + 1) s u ↔ ∃ t, step s = .next t ∧ Steps n t u := Iff.rfl

/-- One step is a run. -/
theorem steps_one {s t : State} : Steps 1 s t ↔ step s = .next t := by
  simp [steps_succ]

/-- Runs follow each other. -/
theorem Steps.trans {m n : Nat} {s t u : State} (h : Steps m s t) (k : Steps n t u) : Steps (m + n) s u := by
  induction m generalizing s with
  | zero => rw [steps_zero] at h; subst h; simpa using k
  | succ m ih =>
    obtain ⟨v, hv, h⟩ := steps_succ.1 h
    rw [Nat.succ_add]
    exact steps_succ.2 ⟨v, hv, ih h⟩

/-- The first micro-operation of a running PDC is performed by one step. -/
theorem steps_perform {s t : State} {m : MicroOp} {rest : List MicroOp} (hl : s.cfg.legal = true)
    (hh : s.halt = false) (hs : s.seq = m :: rest) (hp : perform m { s with seq := rest } = .next t) : Steps 1 s t := by
  rw [steps_one, step_perform hl hh hs, hp]

/-- A run of the host's interface begins with a step. -/
theorem core_run_succ (M : Host.Core) {n : Nat} {s u : M.State} (h : M.step s = .next u) :
    M.run (n + 1) s = M.run n u := by
  rw [Host.Core.run, h]

/-- A run is a run of the host's interface. -/
theorem steps_run {n : Nat} {s t : State} (h : Steps n s t) : Host.Core.run Sys2Proof.core n s = .next t := by
  induction n generalizing s with
  | zero => cases h; rfl
  | succ n ih =>
    obtain ⟨u, hu, h⟩ := h
    exact (core_run_succ Sys2Proof.core hu).trans (ih h)

/-- An invariant that every step keeps holds at the end of a run that starts in it. -/
theorem Steps.keeps {P : State → Prop} (hP : ∀ s t, P s → step s = .next t → P t) {n : Nat} {s t : State}
    (h : Steps n s t) (hs : P s) : P t := by
  induction n generalizing s with
  | zero => rw [steps_zero] at h; exact h ▸ hs
  | succ n ih => obtain ⟨u, hu, h⟩ := steps_succ.1 h; exact ih h (hP _ _ hs hu)

end Sys2Proof.Machine
end

