-- ==== Sys2Proof/Machine/Assembly.lean ====
section
/-! DEFINITION. Machine/Assembly.lean: the textual syntax of host programs (spec/30_encoding.md R112): a line of text
to the move the host makes. A logical line may run over several lines of text, as the image of program P2 in
spec/95_test_vectors.md does. -/

namespace Sys2Proof.Machine

/-! ## Words and numbers -/

/-- "A comment runs from `;` to the end of the line" (R112). -/
def withoutComments : Bool → List Char → List Char
  | _, [] => []
  | inside, ch :: rest =>
    if ch = '\n' then ch :: withoutComments false rest
    else if inside || ch == ';' then withoutComments true rest
    else ch :: withoutComments false rest

/-- What separates the words of a line: "operands separated by commas" (R112), and white space. DESIGN CHOICE: one
separator, or several, is as good as another (log entry 30). -/
def separates (ch : Char) : Bool := ch == ' ' || ch == ',' || ch == '\n' || ch == '\t'

/-- The words of a line; `word` is the one being read. -/
def wordsFrom (word : List Char) : List Char → List (List Char)
  | [] => if word = [] then [] else [word]
  | ch :: rest =>
    if separates ch then (if word = [] then [] else [word]) ++ wordsFrom [] rest
    else wordsFrom (word ++ [ch]) rest

/-- The value of a digit. DESIGN CHOICE: a letter may be large or small (log entry 30). -/
def digit (ch : Char) : Option Nat :=
  if '0' ≤ ch ∧ ch ≤ '9' then some (ch.toNat - '0'.toNat)
  else if 'A' ≤ ch ∧ ch ≤ 'F' then some (ch.toNat - 'A'.toNat + 10)
  else if 'a' ≤ ch ∧ ch ≤ 'f' then some (ch.toNat - 'a'.toNat + 10)
  else none

/-- The value of digits in a base, `acc` the value of those already read. -/
def digits (base : Nat) (acc : Nat) : List Char → Option Nat
  | [] => some acc
  | ch :: rest =>
    match digit ch with
    | some d => if d < base then digits base (acc * base + d) rest else none
    | none => none

/-- "numbers in decimal or `0x` hexadecimal" (R112). -/
def number : List Char → Option Nat
  | '0' :: 'x' :: d :: ds => digits 16 0 (d :: ds)
  | d :: ds => digits 10 0 (d :: ds)
  | [] => none

/-- An operand of `w` bits. DESIGN CHOICE: a number that does not fit in them makes its line no line of a program; it is
not cut to its low bits, nor put into the bits that the format ignores (R93, R96; log entry 30). -/
def operand (w : Nat) (word : List Char) : Option (BitVec w) :=
  match number word with
  | some n => if n < 2 ^ w then some (BitVec.ofNat w n) else none
  | none => none

/-- A byte of a `.pay` or `.img` directive: hexadecimal digits with no prefix, as every example has it (log
entry 17). DESIGN CHOICE: a number above `0xFF` makes its line no line (log entry 30). -/
def directiveByte : List Char → Option Byte
  | [] => none
  | d :: ds =>
    match digits 16 0 (d :: ds) with
    | some n => if n < 256 then some (BitVec.ofNat 8 n) else none
    | none => none

/-- The bytes of a directive. -/
def directiveBytes : List (List Char) → Option (List Byte)
  | [] => some []
  | word :: rest =>
    match directiveByte word, directiveBytes rest with
    | some b, some bs => some (b :: bs)
    | _, _ => none

/-! ## Lines -/

/-- The operation of a line: "mnemonic then operands" (R112, R92). -/
def assembleWords : List (List Char) → Option Instr
  | [m] =>
    if m = "INIT".toList then some .init
    else if m = "WAIT_IDLE".toList then some .waitIdle
    else if m = "TURN_ON_DISPLAY".toList then some .turnOnDisplay
    else if m = "CLOSE".toList then some .close
    else none
  | [m, a] =>
    if m = "SEND_COMMAND".toList then (operand 8 a).map .sendCommand
    else if m = "SEND_DATA".toList then (operand 16 a).map .sendData
    else if m = "CLEAR".toList then (operand 8 a).map .clear
    else if m = "DISPLAY".toList ∧ a = "null".toList then some (.display 0 0 false)
    else none
  | [m, a, b] =>
    match operand 16 a, operand 16 b with
    | some x, some y =>
      if m = "SET_CURSOR".toList then some (.setCursor x y)
      else if m = "DISPLAY".toList then some (.display x y true)
      else if m = "PACK".toList then some (.pack x y)
      else none
    | _, _ => none
  | [m, a, b, d, e] =>
    match operand 16 a, operand 16 b, operand 16 d, operand 16 e with
    | some xs, some ys, some xe, some ye =>
      if m = "SET_WINDOW".toList then some (.setWindow xs ys xe ye) else none
    | _, _, _, _ => none
  | _ => none

/-- A line of a host program: an operation, which the host presents; `.pay b0 b1 ...`, which "writes `PAY[0..]`"; or
`.img w h : b0 b1 ...`, which "writes `IMG` row-major", one byte for each of its `w * h` pixels (R112, R62). -/
def assemble (c : Config) (line : List Char) : Option HostMove :=
  match wordsFrom [] (withoutComments false line) with
  | [] => none
  | m :: rest =>
    if m = ".pay".toList then (directiveBytes rest).map .writePay
    else if m = ".img".toList then
      match rest with
      | a :: b :: colon :: bytes =>
        match operand 16 a, operand 16 b, directiveBytes bytes with
        | some w, some h, some bs =>
          if colon = ":".toList ∧ bs.length = w.toNat * h.toNat then some (.writeImg bs) else none
        | _, _, _ => none
      | _ => none
    else (assembleWords (m :: rest)).map fun i => .present (encode c i)

end Sys2Proof.Machine
end

