-- ==== Sys2Proof/Tests/Slice0.lean ====
section
/-! SUPPORT. Tests/Slice0.lean: tests of single steps against the vectors of spec/95_test_vectors.md, and for each
obligation with hypotheses a witness that meets them. The expected values are the vectors', not the model's. -/

open Sys2Proof Sys2Proof.Machine

namespace Sys2Proof.Tests

/-! ## Small states -/

/-- The reference configuration at another geometry; 8×2 and 16×3 are the vectors' (D33). -/
def small (w h : Nat) : Config := { Config.reference with width := w, height := h }

/-- A PDC of configuration `c` in phase `p`, idle, with an environment that opens, never aborts and is never busy. -/
def quiet (c : Config) (p : Phase) : State :=
  { State.powerOn c with
    phase := p, openAns := { script := [], rest := some true }, abortAns := { script := [], rest := some false },
    busyAns := { script := [], rest := some false } }

/-- The same with an image of width `w` and height `h` in `IMG`. -/
def withImage (c : Config) (w h : Half) (img : List Byte) : State :=
  { quiet c .ready with imgw := .value w, imgh := .value h, img := Memory.writeBytes [] 0 img }

/-- The next state of an outcome. -/
def nextOf : Host.Outcome State Fault Refusal → Option State
  | .next s => some s
  | .fault _ => none
  | .refused _ => none

/-- The micro-operations an instruction leaves to perform. -/
def seqOf (o : Host.Outcome State Fault Refusal) : List MicroOp := ((nextOf o).map State.seq).getD []

/-- The status an instruction leaves. -/
def statOf (o : Host.Outcome State Fault Refusal) : Option (BitVec 16) := (nextOf o).map State.stat

/-- The bytes of `BUF`. -/
def bufOf (s : State) : List Byte := s.buf.map Prod.snd

/-! ## WellFormed: the one check, and the ill-formed terms it refuses -/

theorem test_wf_row_of_one_byte : Instr.wf (small 8 2) (.cmdWriteRam [0xAA]) = true := by decide
theorem test_wf_refuses_short_row : Instr.wf (small 16 3) (.cmdWriteRam [0xAA]) = false := by decide
theorem test_wf_refuses_long_row : Instr.wf (small 8 2) (.cmdWriteRam [0xAA, 0x55]) = false := by decide

/-! ## Decoding, by words written out from R91 to R93, R100 and R101 -/

theorem test_decode_host_without_operands :
    decode (small 8 2) (.request 0x000000000000000001) = .ok .init ∧
    decode (small 8 2) (.request 0x000000000000000004) = .ok .waitIdle ∧
    decode (small 8 2) (.request 0x000000000000000007) = .ok .turnOnDisplay ∧
    decode (small 8 2) (.request 0x00000000000000000A) = .ok .close := by decide

theorem test_decode_sendCommand :  -- V12: a0 = 0x01FF, the high byte ignored
    decode (small 8 2) (.request 0b00000001111111110000_0010) = .ok (.sendCommand 0b11111111) := by decide

theorem test_decode_sendData :  -- a0 in bits 23:8
    decode (small 8 2) (.request 0b000000010000000100000011) = .ok (.sendData 0b0000000100000001) := by decide

theorem test_decode_setWindow :  -- V32
    decode (small 8 2) (.request 0xFFFF07FF0100000805) = .ok (.setWindow 8 256 2047 65535) := by decide

theorem test_decode_setCursor :  -- V36d
    decode (small 8 2) (.request 0x00000000FFFF080006) = .ok (.setCursor 2048 65535) := by decide

theorem test_decode_display :  -- V41, and present in a2[0] alone
    decode (small 8 2) (.request 0x000000010128008008) = .ok (.display 128 296 true) ∧
    decode (small 8 2) (.request 0xFFFFFFFE0128008008) = .ok (.display 128 296 false) := by decide

theorem test_decode_clear : decode (small 8 2) (.request 0x00000000000000FF09) = .ok (.clear 0xFF) := by decide

theorem test_decode_pack :  -- V22, a2 ignored
    decode (small 8 2) (.request 0x0000FFFF008001280B) = .ok (.pack 296 128) := by decide

theorem test_decode_configuration_commands :
    decode (small 8 2) (.command [0x01]) = .ok .cmdDriverOutput ∧
    decode (small 8 2) (.command [0x0C]) = .ok .cmdBoosterSoftStart ∧
    decode (small 8 2) (.command [0x2C]) = .ok .cmdWriteVcom ∧
    decode (small 8 2) (.command [0x3A]) = .ok .cmdDummyLinePeriod ∧
    decode (small 8 2) (.command [0x3B]) = .ok .cmdGateLineWidth ∧
    decode (small 8 2) (.command [0x11]) = .ok .cmdDataEntryMode ∧
    decode (small 8 2) (.command [0x32]) = .ok .cmdWriteLut := by decide

theorem test_decode_window_commands :
    decode (small 8 2) (.command [0x44, 0x01, 0xFF]) = .ok (.cmdSetRamXRange 0x01 0xFF) ∧
    decode (small 8 2) (.command [0x45, 0x2C, 0x01, 0x02, 0x00]) = .ok (.cmdSetRamYRange 300 2) ∧
    decode (small 8 2) (.command [0x4E, 0x0F]) = .ok (.cmdSetRamXCounter 0x0F) ∧
    decode (small 8 2) (.command [0x4F, 0x00, 0x01]) = .ok (.cmdSetRamYCounter 256) := by decide

theorem test_decode_display_commands :
    decode (small 16 3) (.command [0x24, 0x7F, 0xFE]) = .ok (.cmdWriteRam [0x7F, 0xFE]) ∧
    decode (small 8 2) (.command [0x22]) = .ok .cmdDisplayUpdate2 ∧
    decode (small 8 2) (.command [0x20]) = .ok .cmdMasterActivation ∧
    decode (small 8 2) (.command [0xFF]) = .ok .cmdTerminateFrame := by decide

theorem test_decode_rejects_by_name :
    decode (small 8 2) (.request 0x00) = .error (.reservedOp 0x00) ∧
    decode (small 8 2) (.request 0x0C) = .error (.reservedOp 0x0C) ∧
    decode (small 8 2) (.command []) = .error .emptyCommand ∧
    decode (small 8 2) (.command [0x02]) = .error (.unknownCommand 0x02) ∧
    decode (small 8 2) (.command [0x44, 0x00]) = .error (.missingOperands 0x44) := by decide

theorem test_decodeTableWord :
    decodeTableWord 72 0x05 = some (.setWindow 0 0 0 0) ∧ decodeTableWord 72 0x0C = none ∧
    decodeTableWord 8 0x45 = some (.cmdSetRamYRange 0 0) ∧
    decodeTableWord 8 0x24 = some (.cmdWriteRam (List.replicate 16 0)) ∧ decodeTableWord 8 0x02 = none := by decide

theorem test_withFetchWord_runs_the_word_from_reset :
    (nextOf (step (State.reset.withFetchWord 72 0x01))).map (fun t => (t.seq.head?, t.host)) =
      some (some .uOpen, []) ∧
    statOf (step (State.reset.withFetchWord 72 0x09)) = some 0x0804 ∧
    statOf (step (State.reset.withFetchWord 8 0x24)) = some 0x0804 := by decide

/-! ## The textual syntax (R112), on lines of P1, P2 and P4 -/

theorem test_assemble_operations :
    assemble (small 16 3) "INIT            ; 0x000000000000000001".toList = some (.present (.request 1)) ∧
    assemble (small 16 3) "CLEAR 0x00".toList = some (.present (.request 0x09)) ∧
    assemble (small 16 3) "SET_WINDOW 0, 0, 15, 2".toList = some (.present (.request 0x0002000F0000000005)) ∧
    assemble (small 16 3) "SEND_COMMAND 0x4E".toList = some (.present (.request 0x4E02)) ∧
    assemble (small 16 3) "DISPLAY 16, 3".toList = some (.present (.request 0x000000010003001008)) ∧
    assemble (small 16 3) "DISPLAY null".toList = some (.present (.request 0x08)) := by decide

/-- The choice of log entry 30, and the word of V12, which decodes though no text yields it. -/
theorem test_assemble_large_numbers :
    assemble (small 16 3) "SEND_COMMAND 0xff".toList = some (.present (.request 0xFF02)) ∧
    assemble (small 16 3) "SEND_COMMAND 0x1FF".toList = none ∧ assemble (small 16 3) "SEND_DATA 65536".toList = none ∧
    decode (small 16 3) (.request 0x01FF02) = .ok (.sendCommand 0xFF) := by decide

theorem test_assemble_directives :
    assemble (small 16 3) ".pay D7 D6 9D".toList = some (.writePay [0xD7, 0xD6, 0x9D]) ∧
    assemble (small 16 3) ".img 3 2 : 00 80 00 ; row 0\n 80 80 FF".toList =
      some (.writeImg [0x00, 0x80, 0x00, 0x80, 0x80, 0xFF]) ∧
    assemble (small 16 3) ".img 3 2 : 00".toList = none ∧ assemble (small 16 3) "HALT".toList = none := by decide

/-! ## Host operations -/

theorem test_init_expansion :  -- P1: the pulse, then the driver output payload of an 8×2 panel
    (seqOf (execInit (quiet (small 8 2) .unpowered))).take 17 =
      [.uOpen, .uPhase .resetting, .uRst .high, .uSleep 200, .uRst .low, .uSleep 5, .uRst .high, .uSleep 200,
        .uPhase .configuringRegisters, .uDc .low, .uCs .low, .uWrImm [0x01], .uCs .high, .uDc .high, .uCs .low,
        .uWrImm [0x01, 0x00, 0x00], .uCs .high] := by decide

theorem test_init_refused_when_ready :  -- V7
    statOf (execInit (quiet (small 8 2) .ready)) = some 0x0807 := by decide

theorem test_close_expansion : seqOf (execClose (quiet (small 8 2) .ready)) = [.uClose, .uPhase .unpowered] := by decide

theorem test_sendCommand_expansion :  -- V10
    seqOf (execSendCommand 0x24 (quiet (small 8 2) .ready)) = [.uDc .low, .uCs .low, .uWrImm [0x24], .uCs .high] := by
  decide

theorem test_sendData_latches_length :  -- V11
    (nextOf (execSendData 3 (quiet (small 8 2) .ready))).map (fun t => (t.plen, t.seq)) =
      some (.value 3, [.uDc .high, .uCs .low, .uWrPay 3, .uCs .high]) := by decide

theorem test_sendData_bounds :  -- V13
    statOf (execSendData 0 (quiet (small 8 2) .ready)) = some 0x0407 ∧
    statOf (execSendData 257 (quiet (small 8 2) .ready)) = some 0x0407 ∧
    statOf (execSendData 256 (quiet (small 8 2) .ready)) = some 0x0003 := by decide

theorem test_waitIdle_expansion : seqOf (execWaitIdle (quiet (small 8 2) .ready)) = [.uPoll] := by decide

theorem test_setWindow_expansion :  -- V33
    seqOf (execSetWindow 2048 1 128 255 (quiet (small 8 2) .ready)) =
      [.uSetWin 2048 1 128 255, .uDc .low, .uCs .low, .uWrImm [0x44], .uCs .high,
        .uDc .high, .uCs .low, .uWrImm [0x00, 0x10], .uCs .high,
        .uDc .low, .uCs .low, .uWrImm [0x45], .uCs .high,
        .uDc .high, .uCs .low, .uWrImm [0x01, 0x00, 0xFF, 0x00], .uCs .high] := by decide

theorem test_setCursor_expansion :  -- V36c, with FRAME_PER_BYTE = true (R163)
    seqOf (execSetCursor 127 256 (quiet { small 8 2 with framePerByte := true } .ready)) =
      [.uSetCur 127 256, .uDc .low, .uCs .low, .uWrImm [0x4E], .uCs .high,
        .uDc .high, .uCs .low, .uWrImm [0x0F], .uCs .high,
        .uDc .low, .uCs .low, .uWrImm [0x4F], .uCs .high,
        .uDc .high, .uCs .low, .uWrImm [0x00], .uCs .high, .uDc .high, .uCs .low, .uWrImm [0x01], .uCs .high,
        .uPoll] := by decide

theorem test_turnOnDisplay_expansion :  -- V38
    seqOf (execTurnOnDisplay (quiet (small 8 2) .ready)) =
      [.uDc .low, .uCs .low, .uWrImm [0x22], .uCs .high, .uDc .high, .uCs .low, .uWrImm [0xC4], .uCs .high,
        .uDc .low, .uCs .low, .uWrImm [0x20], .uCs .high, .uDc .low, .uCs .low, .uWrImm [0xFF], .uCs .high,
        .uPoll] := by decide

theorem test_display_expansion :  -- P2: the window, the packing, the first cursor move and row
    ((seqOf (execDisplay 16 3 true (quiet (small 16 3) .ready))).drop 17).take 27 =
      [.uPack, .uSetCur 0 0, .uDc .low, .uCs .low, .uWrImm [0x4E], .uCs .high,
        .uDc .high, .uCs .low, .uWrImm [0x00], .uCs .high, .uDc .low, .uCs .low, .uWrImm [0x4F], .uCs .high,
        .uDc .high, .uCs .low, .uWrImm [0x00, 0x00], .uCs .high, .uPoll,
        .uDc .low, .uCs .low, .uWrImm [0x24], .uCs .high, .uDc .high, .uCs .low, .uWrRow 0, .uCs .high] := by decide

theorem test_display_null :  -- V43
    (nextOf (execDisplay 0 0 false (quiet (small 8 2) .ready))).map (fun t => (t.stat, t.trace, t.imgw)) =
      some (0x0107, [], .noValue) := by decide

theorem test_clear_expansion :  -- P1: 82 micro-operations on the wire or polling, and 1 + 2 register latches
    (nextOf (execClear 0x00 (quiet (small 8 2) .ready))).map (fun t => (t.fill, t.seq.length)) =
      some (.value 0x00, 86) := by decide

theorem test_pack_latches_size :
    (nextOf (execPack 3 16 (quiet (small 16 3) .ready))).map (fun t => (t.imgw, t.imgh, t.seq, t.trace)) =
      some (.value 3, .value 16, [.uPack], []) := by decide

/-! ## Panel commands, by the worked examples of R136 to R142, R185 to R189, R205 to R208 -/

theorem test_driverOutput_payload :  -- V5
    ([1, 2, 256, 257, 296, 512, 513, 65535].map fun h => payloadDriverOutput (small 8 h)) =
      [[0x00, 0x00, 0x00], [0x01, 0x00, 0x00], [0xFF, 0x00, 0x00], [0x00, 0x01, 0x00], [0x27, 0x01, 0x00],
        [0xFF, 0x01, 0x00], [0x00, 0x02, 0x00], [0xFE, 0xFF, 0x00]] := by decide

/-- A command frame and a data frame. -/
def sends (code : Byte) (bytes : List Byte) : List MicroOp :=
  [.uDc .low, .uCs .low, .uWrImm [code], .uCs .high, .uDc .high, .uCs .low, .uWrImm bytes, .uCs .high]

theorem test_cmdDriverOutput :
    seqOf (execCmdDriverOutput (quiet (small 8 296) .ready)) = sends 0x01 [0x27, 0x01, 0x00] := by decide
theorem test_cmdBoosterSoftStart :
    seqOf (execCmdBoosterSoftStart (quiet (small 8 2) .ready)) = sends 0x0C [0xD7, 0xD6, 0x9D] := by decide
theorem test_cmdWriteVcom : seqOf (execCmdWriteVcom (quiet (small 8 2) .ready)) = sends 0x2C [0xA8] := by decide
theorem test_cmdDummyLinePeriod :
    seqOf (execCmdDummyLinePeriod (quiet (small 8 2) .ready)) = sends 0x3A [0x1A] := by decide
theorem test_cmdGateLineWidth :
    seqOf (execCmdGateLineWidth (quiet (small 8 2) .ready)) = sends 0x3B [0x08] := by decide
theorem test_cmdDataEntryMode :
    seqOf (execCmdDataEntryMode (quiet (small 8 2) .ready)) = sends 0x11 [0x03] := by decide
theorem test_cmdWriteLut :  -- V1
    seqOf (execCmdWriteLut (quiet (small 8 2) .ready)) = sends 0x32
      [0x02, 0x02, 0x01, 0x11, 0x12, 0x12, 0x22, 0x22, 0x66, 0x69, 0x69, 0x59, 0x58, 0x99, 0x99, 0x88,
       0x00, 0x00, 0x00, 0x00, 0xF8, 0xB4, 0x13, 0x51, 0x35, 0x51, 0x51, 0x19, 0x01, 0x00] := by decide
theorem test_cmdWriteLut_partial :  -- V6
    seqOf (execCmdWriteLut (quiet { small 8 2 with lutSelect := .partialUpdate } .ready)) = sends 0x32
      [0x10, 0x18, 0x18, 0x08, 0x18, 0x18, 0x08, 0x00, 0x00, 0x00, 0x00, 0x00, 0x00, 0x00, 0x00, 0x00,
       0x00, 0x00, 0x00, 0x00, 0x13, 0x14, 0x44, 0x12, 0x00, 0x00, 0x00, 0x00, 0x00, 0x00] := by decide
theorem test_cmdSetRamXRange :
    seqOf (execCmdSetRamXRange 0x00 0x0F (quiet (small 8 2) .ready)) = sends 0x44 [0x00, 0x0F] := by decide
theorem test_cmdSetRamYRange :
    seqOf (execCmdSetRamYRange 0 295 (quiet (small 8 2) .ready)) = sends 0x45 [0x00, 0x00, 0x27, 0x01] := by decide
theorem test_cmdSetRamXCounter :
    seqOf (execCmdSetRamXCounter 0x00 (quiet (small 8 2) .ready)) = sends 0x4E [0x00] := by decide
theorem test_cmdSetRamYCounter :
    seqOf (execCmdSetRamYCounter 295 (quiet (small 8 2) .ready)) = sends 0x4F [0x27, 0x01] := by decide
theorem test_cmdWriteRam :  -- one data frame even with FRAME_PER_BYTE = true (R163)
    seqOf (execCmdWriteRam [0x7F, 0xFE] (quiet { small 16 3 with framePerByte := true } .ready)) =
      sends 0x24 [0x7F, 0xFE] := by decide
theorem test_cmdDisplayUpdate2 :
    seqOf (execCmdDisplayUpdate2 (quiet (small 8 2) .ready)) = sends 0x22 [0xC4] := by decide
theorem test_cmdMasterActivation :
    seqOf (execCmdMasterActivation (quiet (small 8 2) .ready)) = [.uDc .low, .uCs .low, .uWrImm [0x20], .uCs .high] := by
  decide
theorem test_cmdTerminateFrame :
    seqOf (execCmdTerminateFrame (quiet (small 8 2) .ready)) = [.uDc .low, .uCs .low, .uWrImm [0xFF], .uCs .high] := by
  decide

theorem test_column_bytes :  -- R69, R185
    [10, 15, 127, 128, 2047, 2048].map col = [0x01, 0x01, 0x0F, 0x10, 0xFF, 0x00] := by decide

/-! ## Acceptance and status, by V45 -/

theorem test_refusals_by_status :
    statOf (execClear 0xFF (quiet (small 8 2) .unpowered)) = some 0x0804 ∧
    statOf (step { quiet (small 8 2) .unpowered with host := [.present (.request 0x00)] }) = some 0x0404 ∧
    statOf (step { quiet (small 8 2) .ready with host := [.present (.request 0x0C)] }) = some 0x0407 ∧
    statOf (execDisplay 0 0 false (quiet (small 8 2) .unpowered)) = some 0x0804 := by decide

/-! ## Micro-operations -/

theorem test_open_fails :  -- V3
    (nextOf (perform .uOpen { quiet (small 8 2) .unpowered with openAns := { script := [false], rest := none } })).map
      (fun t => (t.trace, t.stat, t.rst)) = some ([.open false], 0x0018, .undriven) := by decide

theorem test_write_aborts :  -- V4
    (nextOf (perform (.uWrImm [0x0C]) { quiet (small 8 2) .configuringRegisters with
      cs := .driven .low, abortAns := { script := [true], rest := none } })).map
      (fun t => (t.trace, t.stat, t.cs)) = some ([], 0x002A, .driven .low) := by decide

theorem test_writeRow :  -- P2, row 2
    (nextOf (perform (.uWrRow 2) { quiet (small 16 3) .ready with
      buf := Memory.writeBytes [] 0 [0x7F, 0xFE, 0xFF, 0x7F, 0xEF, 0xFF] })).map State.trace =
      some [.wr [0xEF, 0xFF]] := by decide

theorem test_writePay :  -- V11
    (nextOf (perform (.uWrPay 3) { quiet (small 8 2) .ready with
      pay := Memory.writeBytes [] 0 [0xD7, 0xD6, 0x9D] })).map State.trace = some [.wr [0xD7, 0xD6, 0x9D]] := by decide

theorem test_writeFill :  -- V40
    (nextOf (perform (.uWrFill 3) { quiet (small 8 2) .ready with fill := .value 0xFF })).map State.trace =
      some [.wr [0xFF, 0xFF, 0xFF]] := by decide

theorem test_poll_busy :  -- V37, first row of the busy ones
    (nextOf (perform .uPoll { quiet (small 8 2) .ready with
      busyAns := { script := [true], rest := some false } })).map (fun t => (t.trace, t.polls, t.seq)) =
      some ([.busy .high], 1, [.uSleep 200, .uPoll]) := by decide

theorem test_poll_timeout :  -- P5: the third busy answer of three
    (nextOf (perform .uPoll { quiet { small 8 2 with busyTimeoutPolls := some 3 } .ready with
      polls := 2, busyAns := { script := [], rest := some true } })).map (fun t => (t.trace, t.polls, t.stat)) =
      some ([.busy .high], 3, 0x003B) := by decide

/-! ## Packing -/

/-- An image of `n` bytes `b` with the bytes at `black` zero. -/
def imageOf (n : Nat) (b : Byte) (black : List Nat) : List Byte :=
  (List.range n).map fun i => if black.contains i then 0 else b

theorem test_pack_R170 : bufOf (withImage (small 8 2) 8 2 (imageOf 16 0xFF [2, 15])).packImage = [0xDF, 0xFE] := by
  decide

theorem test_pack_V28 :  -- aligned, black at (0,0), (15,0), (8,1), (3,2)
    bufOf (withImage (small 16 3) 16 3 (imageOf 48 0xFF [0, 15, 24, 35])).packImage =
      [0x7F, 0xFE, 0xFF, 0x7F, 0xEF, 0xFF] := by decide

theorem test_pack_V29 :  -- rotated, black at (0,0), (2,0), (1,8), (0,15)
    bufOf (withImage (small 16 3) 3 16 (imageOf 48 0x80 [0, 2, 25, 45])).packImage =
      [0x7F, 0xFF, 0xFF, 0x7F, 0x7F, 0xFE] ∧
    (withImage (small 16 3) 3 16 (imageOf 48 0x80 [0, 2, 25, 45])).packImage.orient = .value .rotated := by decide

theorem test_pack_V27 :  -- a square panel: aligned wins
    bufOf (withImage (small 8 8) 8 8 (imageOf 64 0xFF [1])).packImage =
      [0xBF, 0xFF, 0xFF, 0xFF, 0xFF, 0xFF, 0xFF, 0xFF] := by decide

theorem test_pack_V23 :  -- luma 1 is white
    bufOf (withImage (small 8 2) 8 2 (imageOf 16 0x01 [])).packImage = [0xFF, 0xFF] := by decide

theorem test_pack_V26 :  -- neither orientation
    bufOf (withImage (small 8 2) 0 0 []).packImage = [0xFF, 0xFF] ∧
    (withImage (small 8 2) 0 0 []).packImage.stat = 0x0207 := by decide

/-! ## Observation -/

theorem test_frame_stream :
    { quiet (small 8 2) .ready with
      trace := [.dc .low, .cs .low, .wr [0x24], .cs .high, .dc .high, .cs .low, .wr [0xAA, 0x55], .cs .high]
      }.frameStream =
        [{ kind := .driven .low, writes := 1, bytes := [0x24] },
          { kind := .driven .high, writes := 1, bytes := [0xAA, 0x55] }] := by decide

theorem test_open_frame_after_abort :  -- V4: the last frame stays open
    { quiet (small 8 2) .ready with trace := [.dc .low, .cs .low] }.openFrame =
      some { kind := .driven .low, writes := 0, bytes := [] } := by decide

/-- The events of the activation sequence (R209), with `ACT_FLAGS` or another byte as its flags. -/
def activation (flags : Byte) : List Event :=
  [.dc .low, .wr [0x22], .dc .high, .wr [flags], .dc .low, .wr [0x20], .wr [0xFF]]

/-- The events that set the panel's window to columns 0 to 15, its cursor to column 1 of row 256, and write one byte. -/
def oneByte : List Event :=
  [.dc .low, .wr [0x44], .dc .high, .wr [0x00, 0x0F], .dc .low, .wr [0x4E], .dc .high, .wr [0x01],
    .dc .low, .wr [0x4F], .dc .high, .wr [0x00, 0x01], .dc .low, .wr [0x24], .dc .high, .wr [0x3C]]

/-- The panel after those events and some more. -/
def panelAfter (es : List Event) : Panel :=
  { quiet (small 8 2) .ready with trace := oneByte ++ es }.panel

theorem test_panel_ram :  -- R75; R275: bytes written change the RAM only
    (panelAfter []).pram = [(pramKey 1 256, 0x3C)] ∧ (panelAfter []).xc = 2 ∧ (panelAfter []).yc = 256 ∧
      (panelAfter []).shown = none := by decide

theorem test_panel_shows_at_the_activation_sequence :  -- R74, R275: only there
    (panelAfter (activation 0xC4)).shown = some [(pramKey 1 256, 0x3C)] ∧
    (panelAfter [.dc .low, .wr [0x20]]).shown = none ∧
    (panelAfter [.dc .low, .wr [0x22], .wr [0x20]]).shown = none := by decide

theorem test_panel_is_unknown_after_the_pulse :  -- R261, U16
    panelAfter (activation 0xC4 ++ [.rst .high, .rst .low, .rst .high]) = Panel.unknown (.driven .low) 1 ∧
      (Panel.unknown (.driven .low) 1).pram = [] ∧ (Panel.unknown (.driven .low) 1).shown = none :=
  ⟨rfl, rfl, rfl⟩

/-! ## Witnesses: for each obligation with hypotheses, data that meets all of them together -/

theorem small_legal : (small 8 2).legal = true ∧ (small 16 3).legal = true := by decide

theorem quiet_idleIn {c : Config} (h : c.legal = true) (p : Phase) : (quiet c p).IdleIn p := ⟨h, rfl, rfl⟩

theorem quiet_neverAborts (c : Config) (p : Phase) : (quiet c p).NeverAborts := ⟨by simp [quiet], rfl⟩

theorem quiet_alwaysIdle (c : Config) (p : Phase) : (quiet c p).AlwaysIdle := ⟨by simp [quiet], rfl⟩

/-- An idle 8×2 PDC in phase `Ready`. -/
def ready : State := quiet (small 8 2) .ready

/-- An idle 8×2 PDC before `INIT`. -/
def unpowered : State := quiet (small 8 2) .unpowered

theorem ready_idleIn : ready.IdleIn .ready := quiet_idleIn small_legal.1 _

theorem ready_quiet : ready.NeverAborts ∧ ready.AlwaysIdle := ⟨quiet_neverAborts _ _, quiet_alwaysIdle _ _⟩

/-- `ready` with a busy line that reads 1 `k` times and then 0, and a timeout one answer beyond. -/
def busyFor (k : Nat) : State :=
  { quiet { small 8 2 with busyTimeoutPolls := some (k + 1) } .ready with
    busyAns := { script := List.replicate k true ++ [false], rest := none } }

theorem busyFor_times (k : Nat) : (busyFor k).BusyTimes k ∧ (busyFor k).Patient k :=
  ⟨⟨[], rfl⟩, fun n hn => by cases hn; omega⟩

/-- `ready` with a busy line that always reads 1, under a timeout. -/
def stuck (timeout : Option Nat) : State :=
  { quiet { small 8 2 with busyTimeoutPolls := timeout } .ready with busyAns := { script := [], rest := some true } }

theorem stuck_alwaysBusy (timeout : Option Nat) : (stuck timeout).AlwaysBusy := ⟨by simp [stuck], rfl⟩

theorem witness_DecodeOfEncodeIsTheInstruction :
    (small 16 3).legal = true ∧ Instr.wf (small 16 3) (.cmdWriteRam [0xAA, 0x55]) = true ∧
      Instr.wf (small 16 3) (.setWindow 0 65535 65535 0) = true := by decide

theorem witness_IgnoredBitsDoNotMatter :
    let agree := fun v w : Request => Request.op v = Request.op w
    (agree 0xFFFFFFFFFFFFFFFF01 0x01 ∧ Request.op 0x01 ∈ ([0x01, 0x04, 0x07, 0x0A] : List Byte)) ∧
    (agree 0x01FF02 0xFF02 ∧ Request.op 0xFF02 ∈ ([0x02, 0x09] : List Byte) ∧
      lo8 (Request.a0 0x01FF02) = lo8 (Request.a0 0xFF02)) ∧
    (agree 0x1000000303 0x0303 ∧ Request.op 0x0303 = 0x03 ∧ Request.a0 0x1000000303 = Request.a0 0x0303) ∧
    (agree 0x00010000000000000B 0x0B ∧ Request.op 0x0B ∈ ([0x06, 0x0B] : List Byte) ∧
      Request.a0 0x00010000000000000B = Request.a0 0x0B ∧ Request.a1 0x00010000000000000B = Request.a1 0x0B) ∧
    (agree 0x000003000000000008 0x000001000000000008 ∧ Request.op 0x000001000000000008 = 0x08 ∧
      Request.a0 0x000003000000000008 = Request.a0 0x000001000000000008 ∧
      Request.a1 0x000003000000000008 = Request.a1 0x000001000000000008 ∧
      (Request.a2 0x000003000000000008).getLsbD 0 = (Request.a2 0x000001000000000008).getLsbD 0) := by decide

theorem witness_StepExecutesThePresentedInstruction :
    let s := { ready with host := [.present (.request 0x04)] }
    s.cfg.legal = true ∧ s.idle = true ∧ s.host = .present (.request 0x04) :: [] ∧
      decode s.cfg (.request 0x04) = .ok .waitIdle := by decide

theorem witness_StepWithoutAnInstruction :
    (let s := { ready with seq := [.uPoll] }; s.cfg.legal = true ∧ s.halt = false ∧ s.seq = .uPoll :: []) ∧
    (let s := { ready with halt := true }; s.cfg.legal = true ∧ s.halt = true) ∧
    (ready.cfg.legal = true ∧ ready.idle = true ∧ ready.host = []) := by decide

/-- `ready` with the host about to present `w`. -/
def presenting (w : Request) : State := { ready with host := [.present (.request w)] }

theorem presenting_idle (w : Request) : (presenting w).cfg.legal = true ∧ (presenting w).idle = true ∧
    (presenting w).host = .present (.request w) :: [] := ⟨small_legal.1, rfl, rfl⟩

theorem witness_ReservedRequestOnlySetsIllegalReq :
    ((presenting 0x0C).cfg.legal = true ∧ (presenting 0x0C).idle = true ∧
      (presenting 0x0C).host = .present (.request 0x0C) :: []) ∧
    Request.op 0x00 = 0x00 ∧ 0x0C ≤ (Request.op 0x0C).toNat ∧ 0x0C ≤ (Request.op 0xFF).toNat :=
  ⟨presenting_idle _, by decide, by decide, by decide⟩

theorem witness_AcceptanceInOrder (w : Request) :
    (presenting w).cfg.legal = true ∧ (presenting w).idle = true ∧
      (presenting w).host = .present (.request w) :: [] := presenting_idle w

theorem witness_WrongPhaseOnlySetsNotReady :
    (ready.idle = true ∧ ready.phase ≠ (if Instr.init = .init then Phase.unpowered else .ready)) ∧
    (unpowered.idle = true ∧ unpowered.phase ≠ (if Instr.close = .init then Phase.unpowered else .ready)) ∧
    (unpowered.phase ≠ (if Instr.cmdTerminateFrame = .init then Phase.unpowered else .ready)) := by decide

theorem witness_NothingIsExecutedWhileBusy :
    { ready with seq := [.uPoll] }.idle = false ∧ { ready with halt := true }.idle = false := by decide

theorem witness_OperationsWithoutRegistersAreAccepted :
    (unpowered.idle = true ∧ unpowered.phase = .unpowered) ∧ (ready.idle = true ∧ ready.phase = .ready) := by decide

theorem witness_OperationsWithRegistersAreAccepted :
    ready.idle = true ∧ ready.phase = .ready ∧
    (1 : Half).toNat = 1 ∧ (256 : Half).toNat = ready.cfg.paySize ∧
    (0 : Half).toNat = 0 ∧ (257 : Half).toNat = ready.cfg.paySize + 1 := ⟨rfl, rfl, rfl, rfl, rfl, rfl⟩

theorem witness_NullDisplayEmitsNothing : ready.idle = true ∧ ready.phase = .ready := by decide

theorem witness_PanelCommandsAreAccepted : ready.idle = true ∧ ready.phase = .ready := by decide

theorem witness_AcceptanceFrame :
    (∃ t, exec (.clear 7) ready = .next t ∧ t.fill ≠ ready.fill) ∧
    (∃ t, exec (.display 8 2 true) ready = .next t ∧ t.imgw ≠ ready.imgw) ∧
    (∃ t, exec (.pack 8 2) ready = .next t ∧ t.imgh ≠ ready.imgh) ∧
    (∃ t, exec (.sendData 1) ready = .next t ∧ t.plen ≠ ready.plen) :=
  ⟨⟨_, rfl, by decide⟩, ⟨_, rfl, by decide⟩, ⟨_, rfl, by decide⟩, ⟨_, rfl, by decide⟩⟩

theorem witness_OpenAnswersOrHalts :
    unpowered.opensNow = true ∧
      { unpowered with openAns := { script := [false], rest := none } }.opensNow = false := by decide

theorem witness_WritesEmitOrAbort :
    ready.abortsNow = false ∧ { ready with abortAns := { script := [true], rest := none } }.abortsNow = true ∧
      0 < ready.cfg.height ∧ 1 < ready.cfg.height ∧ { ready with fill := .value 7 }.fill = .value 7 ∧
      256 ≤ ready.cfg.paySize := by decide

theorem witness_PollRule :
    ready.busyNow = false ∧
    ((stuck (some 1)).busyNow = true ∧ ∃ n, (stuck (some 1)).cfg.busyTimeoutPolls = some n ∧
      n ≤ (stuck (some 1)).polls + 1) ∧
    ((stuck (some 2)).busyNow = true ∧ ∀ n, (stuck (some 2)).cfg.busyTimeoutPolls = some n →
      (stuck (some 2)).polls + 1 < n) ∧
    ((stuck none).busyNow = true ∧ ∀ n, (stuck none).cfg.busyTimeoutPolls = some n → (stuck none).polls + 1 < n) :=
  ⟨rfl, ⟨rfl, 1, rfl, by decide⟩, ⟨rfl, fun n h => by cases h; decide⟩, ⟨rfl, fun n h => by cases h⟩⟩

theorem witness_FramePerByteKeepsTheByteStream :
    (small 8 2).framePerByte = false ∧ { small 8 2 with framePerByte := true }.framePerByte = true := by decide

theorem witness_FaultsHaltForGood :
    { ready with halt := true, cause := .transportAbort }.cfg.legal = true ∧
      { ready with halt := true, cause := .transportAbort }.halt = true := by decide

theorem witness_AtMostOneEventPerStep :
    ∃ t, step { ready with seq := [.uClose] } = .next t ∧ t.trace = [.close] := ⟨_, rfl, rfl⟩

theorem witness_FlagsAreSticky :
    let f : Flags := { nullImage := true, dimMismatch := true, illegalReq := true, notReady := true }
    ∃ t, step { ready with flags := f, seq := [.uPack], imgw := .value 8, imgh := .value 2 } = .next t :=
  ⟨_, rfl⟩

/-- Its second clause at a full `PAY` and over bytes already there. -/
theorem witness_ParametersAndHostMemoriesAreKept :
    (∃ t, step { ready with host := [.writeImg [1]] } = .next t ∧ t.img ≠ ready.img) ∧
    (∃ t, step { ready with host := [.writePay [1]] } = .next t ∧ t.pay ≠ ready.pay) ∧
    (let s := { quiet { small 8 2 with paySize := 2 } .ready with
        pay := [(0, 9), (1, 9)], img := [(0, 9), (1, 9)], host := [.writePay [7, 8]] };
      s.cfg.legal = true ∧ s.idle = true ∧ s.host = .writePay [7, 8] :: [] ∧ [7, 8].length ≤ s.cfg.paySize ∧
        { s with host := [.writeImg [7]] }.host = .writeImg [7] :: []) :=
  ⟨⟨_, rfl, by decide⟩, ⟨_, rfl, by decide⟩, by decide⟩

theorem test_host_write_keeps_the_rest :  -- R112: from address 0
    (nextOf (writtenPay [7] { ready with pay := [(0, 9), (1, 9)] })).map State.pay = some [(0, 7), (1, 9)] := by decide

theorem witness_OnlyItsMicroOperationWritesARegister :
    (∃ t, step { ready with seq := [.uPack], imgw := .value 0, imgh := .value 0 } = .next t ∧ t.buf ≠ ready.buf) ∧
    (∃ t, step { ready with seq := [.uSetWin 1 2 3 4] } = .next t ∧ t.xs ≠ ready.xs) ∧
    (∃ t, step { ready with seq := [.uSetCur 1 2] } = .next t ∧ t.cy ≠ ready.cy) ∧
    (∃ t, step { ready with seq := [.uPhase .unpowered] } = .next t ∧ t.phase ≠ ready.phase) ∧
    (∃ t, step { ready with seq := [.uRst .low] } = .next t ∧ t.rst ≠ ready.rst) ∧
    (∃ t, step { ready with seq := [.uDc .low] } = .next t ∧ t.dc ≠ ready.dc) ∧
    (∃ t, step { ready with seq := [.uCs .low] } = .next t ∧ t.cs ≠ ready.cs) ∧
    (∃ t, step { ready with host := [.present (.request 0xFF09)] } = .next t ∧ t.fill ≠ ready.fill) ∧
    (∃ t, step { ready with host := [.present (.request 0x08)] } = .next t ∧ t.flags.nullImage ≠ false) ∧
    (∃ t, step { ready with host := [.present (.request 0x00)] } = .next t ∧ t.flags.illegalReq ≠ false) ∧
    (∃ t, step { ready with host := [.present (.request 0x01)] } = .next t ∧ t.flags.notReady ≠ false) ∧
    (∃ t, step { ready with seq := [.uPack], imgw := .value 0, imgh := .value 0 } = .next t ∧
      t.flags.dimMismatch ≠ false) ∧
    (∃ t, step { ready with polls := 1, seq := [.uPoll] } = .next t ∧ t.polls ≠ 1) ∧
    (∃ t, step { ready with polls := 1, host := [.present (.request 0x04)] } = .next t ∧ t.polls ≠ 1 ∧ t.seq ≠ []) ∧
    (∃ t, step { stuck none with seq := [.uPoll] } = .next t ∧ t.seq ≠ []) ∧
    (∃ t, step { stuck (some 1) with seq := [.uPoll] } = .next t ∧ t.halt ≠ ready.halt) ∧
    (∃ t, step { ready with seq := [.uOpen], openAns := { script := [false], rest := none } } = .next t ∧
      t.halt ≠ ready.halt) ∧
    (∃ t, step { ready with seq := [.uWrFill 1], abortAns := { script := [true], rest := none } } = .next t ∧
      t.cause ≠ ready.cause) :=
  ⟨⟨_, rfl, by decide⟩, ⟨_, rfl, by decide⟩, ⟨_, rfl, by decide⟩, ⟨_, rfl, by decide⟩, ⟨_, rfl, by decide⟩,
    ⟨_, rfl, by decide⟩, ⟨_, rfl, by decide⟩, ⟨_, rfl, by decide⟩, ⟨_, rfl, by decide⟩, ⟨_, rfl, by decide⟩,
    ⟨_, rfl, by decide⟩, ⟨_, rfl, by decide⟩, ⟨_, rfl, by decide⟩, ⟨_, rfl, by decide⟩, ⟨_, rfl, by decide⟩,
    ⟨_, rfl, by decide⟩, ⟨_, rfl, by decide⟩, ⟨_, rfl, by decide⟩⟩

/-- A PDC in the middle of the command frame of `CMD_WRITE_RAM`. -/
def midFrame : State :=
  { ready with
    dc := .driven .low, cs := .driven .low, trace := [.dc .low, .cs .low], seq := [.uWrImm [0x24], .uCs .high] }

theorem witness_StepKeepsFraming : midFrame.WellFramed ∧ (∃ t, step midFrame = .next t) ∧ ready.WellFramed ∧
    (∃ t, step { ready with host := [.present (.request 0xFF09)] } = .next t) :=
  ⟨by unfold State.WellFramed; decide, ⟨_, rfl⟩, by unfold State.WellFramed; decide, ⟨_, rfl⟩⟩

theorem witness_EveryWriteIsInItsFrame :
    let s := { midFrame with trace := [.dc .low, .cs .low, .wr [0x24]], seq := [.uCs .high] }
    s.WellFramed ∧ s.trace = [.dc .low, .cs .low] ++ .wr [0x24] :: [] :=
  ⟨by unfold State.WellFramed; decide, rfl⟩

theorem witness_StepKeepsLatches : midFrame.LatchesAgree ∧ ∃ t, step midFrame = .next t :=
  ⟨by unfold State.LatchesAgree; decide, ⟨_, rfl⟩⟩

theorem witness_StepKeepsMemories :
    let s := { ready with buf := [(0, 0xFF), (1, 0x7F)], pay := [(255, 1)], host := [.writePay [1, 2]] }
    s.MemoriesOk ∧ ∃ t, step s = .next t := ⟨by unfold State.MemoriesOk; decide, ⟨_, rfl⟩⟩

theorem witness_StepKeepsHaltAndCause :
    { stuck (some 1) with seq := [.uPoll] }.HaltOk ∧ ∃ t, step { stuck (some 1) with seq := [.uPoll] } = .next t :=
  ⟨by unfold State.HaltOk; decide, ⟨_, rfl⟩⟩

theorem witness_NoAccessFaults :
    (let s := { ready with seq := [.uWrRow 1] }; s.InRange ∧ ∃ t, step s = .next t) ∧
    (let s := { quiet { small 8 2 with paySize := 1 } .ready with host := [.writePay [1, 2]] };
      s.InRange ∧ step s = .fault (.noSuchAddress .pay 1)) := by
  refine ⟨⟨fun m hm => ?_, ⟨_, rfl⟩⟩, ⟨fun m hm => ?_, rfl⟩⟩
  · simp only [List.mem_singleton] at hm; subst hm; show 1 < 2; decide
  · cases hm

theorem witness_ReadyOnlyAfterTheFullSequence :
    let s := { quiet (small 8 2) .configuringRegisters with seq := [.uPhase .ready] }
    s.PhaseOk ∧ s.ReadyComesLast ∧ (∃ t, step s = .next t ∧ t.phase = .ready) ∧ s.phase ≠ .ready :=
  ⟨by unfold State.PhaseOk; decide, by unfold State.ReadyComesLast; decide, ⟨_, rfl, rfl⟩, by decide⟩

theorem witness_StatFields : ready.orient = .noValue ∧ { ready with orient := .value .rotated }.orient = .value .rotated := by
  decide

theorem witness_InitSendsThePulseAndTheSevenCommands :
    unpowered.IdleIn .unpowered ∧ unpowered.opensNow = true ∧ unpowered.NeverAborts :=
  ⟨quiet_idleIn small_legal.1 _, rfl, quiet_neverAborts _ _⟩

theorem witness_CloseReturnsToUnpowered : ready.IdleIn .ready := ready_idleIn

theorem witness_PrimitivesSendOneFrame : ready.IdleIn .ready ∧ ready.NeverAborts ∧
    (1 : Half).toNat = 1 ∧ (256 : Half).toNat = ready.cfg.paySize :=
  ⟨ready_idleIn, ready_quiet.1, rfl, rfl⟩

theorem witness_WaitIdleTrace :
    (busyFor 2).IdleIn .ready ∧ (busyFor 2).BusyTimes 2 ∧ (busyFor 2).Patient 2 :=
  ⟨⟨by decide, rfl, rfl⟩, busyFor_times 2⟩

theorem witness_WaitCanHang : (stuck none).IdleIn .ready ∧ (stuck none).AlwaysBusy ∧
    (stuck none).cfg.busyTimeoutPolls = none := ⟨⟨by decide, rfl, rfl⟩, stuck_alwaysBusy _, rfl⟩

theorem witness_TimeoutHalts : (stuck (some 1)).IdleIn .ready ∧ (stuck (some 1)).AlwaysBusy ∧
    (stuck (some 1)).cfg.busyTimeoutPolls = some (0 + 1) := ⟨⟨by decide, rfl, rfl⟩, stuck_alwaysBusy _, rfl⟩

theorem witness_SetWindowTrace : ready.IdleIn .ready ∧ ready.NeverAborts := ⟨ready_idleIn, ready_quiet.1⟩

/-- Also the witness of TurnOnDisplayTrace, which has the same hypotheses. -/
theorem witness_SetCursorTrace_TurnOnDisplayTrace : (busyFor 1).IdleIn .ready ∧ (busyFor 1).NeverAborts ∧
    (busyFor 1).BusyTimes 1 ∧ (busyFor 1).Patient 1 :=
  ⟨⟨by decide, rfl, rfl⟩, ⟨by simp [busyFor, quiet], rfl⟩, busyFor_times 1⟩

/-- Also the witness of DisplayStreamsThePackedImage and ClearFillsThePanelRam, which have the same hypotheses. -/
theorem witness_ClearStreamsTheFillByte : ready.IdleIn .ready ∧ ready.NeverAborts ∧ ready.AlwaysIdle :=
  ⟨ready_idleIn, ready_quiet⟩

theorem witness_PackEmitsNothing : ready.IdleIn .ready := ready_idleIn

theorem witness_CompositesAreTheirPrimitives :
    ready.IdleIn .ready ∧ ready.cfg.framePerByte = false ∧ 4 ≤ ready.cfg.paySize ∧ ready.cfg.wb ≤ ready.cfg.paySize ∧
      ready.NeverAborts ∧ ready.AlwaysIdle ∧
      ∀ i ∈ [Instr.setWindow 1 2 3 4, .setCursor 10 1, .turnOnDisplay, .clear 7, .display 8 2 true],
        ∃ moves, unrolled ready i = some moves := by
  refine ⟨ready_idleIn, rfl, by decide, by decide, ready_quiet.1, ready_quiet.2, fun i hi => ?_⟩
  fin_cases hi <;> exact ⟨_, rfl⟩

theorem witness_PanelCommandTraces :
    ready.IdleIn .ready ∧ ready.NeverAborts ∧
      ∀ i ∈ [Instr.cmdDriverOutput, .cmdWriteLut, .cmdWriteRam [0xAA], .cmdMasterActivation],
        i.wf ready.cfg = true ∧ ∃ es, panelEvents ready.cfg i = some es := by
  refine ⟨ready_idleIn, ready_quiet.1, fun i hi => ?_⟩
  fin_cases hi <;> exact ⟨rfl, _, rfl⟩

theorem witness_OperationsWithoutAWaitEnd :
    ready.cfg.legal = true ∧ ∃ a, exec (.setWindow 1 2 3 4) ready = .next a := ⟨by decide, _, rfl⟩

/-- A PDC in the middle of the data frame of a row: the write `m` is next, and aborts. -/
def midRow (m : MicroOp) : State :=
  { ready with
    dc := .driven .high, cs := .driven .low, trace := [.dc .high, .cs .low], seq := [m, .uCs .high],
    abortAns := { script := [true], rest := none } }

theorem midRow_ok {m : MicroOp} (h : m ∈ [MicroOp.uWrImm [7, 8], .uWrRow 1, .uWrFill 1, .uWrPay 256]) :
    (midRow m).cfg.legal = true ∧ (midRow m).halt = false ∧ (midRow m).seq = m :: [.uCs .high] ∧ m.isWrite = true ∧
      m.inRange (midRow m).cfg ∧ (midRow m).WellFramed ∧ (midRow m).LatchesAgree ∧ (midRow m).abortsNow = true := by
  fin_cases h <;>
    exact ⟨by decide, rfl, rfl, rfl, by simp [MicroOp.inRange, midRow, ready, quiet, State.powerOn, small,
      Config.reference], by unfold State.WellFramed; decide, by unfold State.LatchesAgree; decide, rfl⟩

/-- Both clauses: a write of each kind in a data frame, at the last row and the whole of `PAY`, and the write of a
command frame; and `SEND_COMMAND` from its acceptance on. -/
theorem witness_AbortLeavesTheFrameOpen :
    (∀ m ∈ [MicroOp.uWrImm [7, 8], .uWrRow 1, .uWrFill 1, .uWrPay 256],
      (midRow m).seq = m :: [.uCs .high] ∧ m.isWrite = true ∧ m.inRange (midRow m).cfg ∧ (midRow m).WellFramed ∧
        (midRow m).LatchesAgree ∧ (midRow m).abortsNow = true) ∧
    (let s := { midFrame with abortAns := { script := [true], rest := none } };
      s.cfg.legal = true ∧ s.halt = false ∧ s.seq = .uWrImm [0x24] :: [.uCs .high] ∧ s.WellFramed ∧
        s.LatchesAgree ∧ s.abortsNow = true) ∧
    (let s := { ready with abortAns := { script := [true], rest := none } }; s.IdleIn .ready ∧ s.abortsNow = true) :=
  ⟨fun _ hm => (midRow_ok hm).2.2,
    ⟨by decide, rfl, rfl, by unfold State.WellFramed; decide, by unfold State.LatchesAgree; decide, rfl⟩,
    ⟨⟨by decide, rfl, rfl⟩, rfl⟩⟩

theorem witness_SetupFailureHaltsInit :
    let s := { unpowered with openAns := { script := [false], rest := none } }
    s.IdleIn .unpowered ∧ s.opensNow = false := ⟨⟨by decide, rfl, rfl⟩, rfl⟩

theorem witness_StreamCounts : ready.IdleIn .ready ∧ ready.NeverAborts ∧ ready.AlwaysIdle ∧
    ready.cfg.framePerByte = false := ⟨ready_idleIn, ready_quiet.1, ready_quiet.2, rfl⟩

theorem witness_UnalignedXIsTruncated : (10 : Half) >>> 3 = (15 : Half) >>> 3 ∧ (2048 : Half) >>> 3 = (2055 : Half) >>> 3 := by
  decide

theorem witness_PackedBitsAreTheSourcePixels :
    (let s := withImage (small 16 3) 16 3 [];
      s.cfg.legal = true ∧ s.packImage.orient = .value .aligned ∧ Orient.aligned ≠ .none ∧ 15 < s.cfg.width ∧
        2 < s.cfg.height) ∧
    (let s := withImage (small 16 3) 3 16 [];
      s.cfg.legal = true ∧ s.packImage.orient = .value .rotated ∧ Orient.rotated ≠ .none ∧ 15 < s.cfg.width ∧
        2 < s.cfg.height) := by
  refine ⟨⟨by decide, ?_, by decide, by decide, by decide⟩, by decide, ?_, by decide, by decide, by decide⟩ <;>
    rw [packImage_eq] <;> rfl

theorem witness_OrientationChoice :
    (let c := small 16 3; (16 : Half).toNat = c.width ∧ (3 : Half).toNat = c.height ∧ (3 : Half).toNat = c.height ∧
      (16 : Half).toNat = c.width ∧ (3 : Half).toNat ≠ c.width ∧ (17 : Half).toNat ≠ c.width ∧
      (17 : Half).toNat ≠ c.height) ∧
    (withImage (small 16 3) 16 3 []).imgw = .value 16 ∧ (withImage (small 16 3) 16 3 []).imgh = .value 3 := by decide

/-- An 8×2 PDC whose image has luma 0xFF everywhere but at the pixels of `black`. -/
def imaged (black : List Nat) : State := withImage (small 8 2) 8 2 (imageOf 16 0xFF black)

theorem imaged_allWhite : (imaged []).AllWhite := by
  have h : ∀ x < 8, ∀ y < 2, (imaged []).luma x y ≠ 0 := by decide
  exact fun x y hx hy => h x hx y hy

theorem witness_WhiteImagesPackToAllOnes :
    ((withImage (small 8 2) 0 0 []).cfg.legal = true ∧ (withImage (small 8 2) 0 0 []).packImage.orient = .value .none) ∧
    ((imaged []).cfg.legal = true ∧ (imaged []).AllWhite) :=
  ⟨by decide, by decide, imaged_allWhite⟩

theorem witness_OneBlackPixelClearsOneBit :
    (imaged [15]).cfg.legal = true ∧ (imaged [15]).packImage.orient = .value .aligned ∧ 7 < (imaged [15]).cfg.width ∧
      1 < (imaged [15]).cfg.height ∧
      ∀ i j, i < (imaged [15]).cfg.width → j < (imaged [15]).cfg.height →
        ((imaged [15]).luma i j = 0 ↔ i = 7 ∧ j = 1) := by
  have h : ∀ i < 8, ∀ j < 2, ((imaged [15]).luma i j = 0 ↔ i = 7 ∧ j = 1) := by decide
  exact ⟨by decide, by decide, by decide, by decide, fun i j hi hj => h i hi j hj⟩

theorem witness_WhiteDisplayIsClear :
    ready.IdleIn .ready ∧ ready.host = [] ∧
      (State.packImage { ready with imgw := .value 0, imgh := .value 0 }).orient = .value .none ∧
    (imaged []).IdleIn .ready ∧ (imaged []).host = [] ∧
      (State.packImage { imaged [] with imgw := .value 8, imgh := .value 2 }).AllWhite := by
  refine ⟨ready_idleIn, rfl, by decide, ⟨by decide, rfl, rfl⟩, rfl, ?_⟩
  have h : ∀ x < 8, ∀ y < 2,
      (State.packImage { imaged [] with imgw := .value 8, imgh := .value 2 }).luma x y ≠ 0 := by decide
  exact fun x y hx hy => h x hx y hy

end Sys2Proof.Tests
end

/-! PROOFS. What a step can do, case by case, and the statements about the state (spec/10_state.md)
that follow from it. -/

namespace Sys2Proof.Machine

/-! ## The step, case by case -/

/-- Everything a step of `s` to a next state can be, down to what acceptance leaves (R28, R97). -/
inductive StepTo (s : State) : State → Prop
  | performed {m : MicroOp} {rest : List MicroOp} {t : State} (hs : s.seq = m :: rest)
      (hp : perform m { s with seq := rest } = .next t) : StepTo s t
  | waited (hs : s.seq = []) (ho : s.host = []) : StepTo s s
  | flagged {w : CodeWord} {rest : List HostMove} {f : Flag} (hs : s.seq = []) (ho : s.host = .present w :: rest)
      (hf : f ≠ .dimMismatch) : StepTo s (State.setFlag f { s with host := rest })
  | taken {w : CodeWord} {rest : List HostMove} {i : Instr} (hs : s.seq = []) (ho : s.host = .present w :: rest)
      (hp : s.phase = phaseNeeded i) (ha : turnedAway { s with host := rest } i = none) :
      StepTo s (State.take { s with host := rest } i)
  | wrotePay {bytes : List Byte} {rest : List HostMove} (hs : s.seq = []) (ho : s.host = .writePay bytes :: rest)
      (hb : bytes.length ≤ s.cfg.paySize) :
      StepTo s { s with host := rest, pay := Memory.writeBytes s.pay 0 bytes }
  | wroteImg {bytes : List Byte} {rest : List HostMove} (hs : s.seq = []) (ho : s.host = .writeImg bytes :: rest) :
      StepTo s { s with host := rest, img := Memory.writeBytes s.img 0 bytes }

/-- A step to a next state starts in a running PDC and is one of these cases. -/
theorem step_stepTo {s t : State} (h : step s = .next t) : s.halt = false ∧ StepTo s t := by
  obtain ⟨-, hh, ⟨m, rest, hs, hp⟩ | ⟨hs, ho, rfl⟩ | ⟨w, rest, e, hs, ho, -, rfl⟩ | ⟨w, rest, i, hs, ho, -, hx⟩ |
    ⟨bytes, rest, hs, ho, hb, rfl⟩ | ⟨bytes, rest, hs, ho, rfl⟩⟩ := step_cases h
  · exact ⟨hh, .performed hs hp⟩
  · exact ⟨hh, .waited hs ho⟩
  · exact ⟨hh, .flagged hs ho (by decide)⟩
  · obtain ⟨-, ⟨f, hf, rfl⟩ | ⟨hp, ha, rfl⟩⟩ := exec_cases hx
    · exact ⟨hh, .flagged hs ho hf⟩
    · exact ⟨hh, .taken hs ho hp ha⟩
  · exact ⟨hh, .wrotePay hs ho hb⟩
  · exact ⟨hh, .wroteImg hs ho⟩

/-- A halted PDC has no step (R28, R236). -/
theorem step_halted {s : State} (hl : s.cfg.legal = true) (hh : s.halt = true) : step s = .fault (.halted s.cause) := by
  simp [step, fetch, hl, hh]

/-- An idle PDC whose host has no move left waits (R28; log entry 9). -/
theorem step_wait {s : State} (hl : s.cfg.legal = true) (hi : s.idle = true) (ho : s.host = []) : step s = .next s := by
  obtain ⟨hs, hh⟩ := (State.idle_iff s).1 hi
  simp [step, fetch, hl, hh, hs, ho]

/-! ## The phase (R29, R130) -/

/-- Only `uPHASE` changes the phase, as `phaseAfter` says. -/
theorem perform_phase {m : MicroOp} {s t : State} (h : perform m s = .next t) : t.phase = phaseAfter s.phase m := by
  cases m
  case uPhase p => cases h; rfl
  all_goals exact (perform_performed h).phase (by simp)

/-- A micro-operation that does not halt leads to the phase it and the pending ones led to; what `uPOLL` puts back has
no part in it. -/
theorem perform_phase_to_come {m : MicroOp} {s t : State} (h : perform m s = .next t) (hh : t.halt = false) :
    t.seq.foldl phaseAfter t.phase = (m :: s.seq).foldl phaseAfter s.phase := by
  rw [List.foldl_cons, ← perform_phase h]
  rcases (perform_performed h).seq with hs | ⟨hh', -⟩ | ⟨-, hs⟩
  · rw [hs]
  · simp [hh] at hh'
  · simp [hs, phaseAfter]

/-- A micro-operation puts no `uPHASE` before the last place of `SEQ`. -/
theorem perform_ready_last {m : MicroOp} {s t : State} (h : perform m s = .next t)
    (hr : .uPhase .ready ∉ (m :: s.seq).dropLast) : t.ReadyComesLast := by
  have hrest : MicroOp.uPhase .ready ∉ s.seq.dropLast := fun hm => by
    cases hs : s.seq with
    | nil => simp [hs] at hm
    | cons n rest => rw [hs] at hm hr; exact hr (List.mem_cons_of_mem _ hm)
  unfold State.ReadyComesLast
  rcases (perform_performed h).seq with hs | ⟨-, hs⟩ | ⟨-, hs⟩
  · rwa [hs]
  · simp [hs]
  · rw [hs]
    cases hq : s.seq with
    | nil => simp
    | cons n rest => rw [hq] at hrest; simpa using hrest

/-- A micro-operation that enters `Ready`, and is the last to do so, leaves the PDC idle. -/
theorem perform_enters_ready {m : MicroOp} {s t : State} (h : perform m s = .next t) (hh : s.halt = false)
    (hr : .uPhase .ready ∉ (m :: s.seq).dropLast) (hs : s.phase ≠ .ready) (ht : t.phase = .ready) : t.idle = true := by
  rw [perform_phase h] at ht
  have hm : m = .uPhase .ready := by
    cases m
    case uPhase p => exact congrArg MicroOp.uPhase ht
    all_goals exact absurd ht hs
  subst hm
  cases h
  cases hq : s.seq with
  | nil => simp [State.idle, hh]
  | cons n rest => simp [hq] at hr

/-! ## The expansions and the phase -/

/-- A frame could change the phase only by its write (R162). -/
@[simp] theorem uPhase_mem_frame {p : Phase} {l : Level} {w : MicroOp} : .uPhase p ∈ frame l w ↔ .uPhase p = w := by
  simp [frame]

/-- No panel command changes the phase (R163). -/
@[simp] theorem uPhase_notMem_cmd (p : Phase) (c : Config) (code : Byte) (bytes : List Byte) :
    .uPhase p ∉ cmd c code bytes := by
  cases bytes with
  | nil => simp [cmd, frameC]
  | cons b bs => cases hf : c.framePerByte <;> simp [cmd, payload, frameC, frameD, hf]

/-- No row of `CLEAR` or `DISPLAY` changes the phase (R210). -/
theorem uPhase_notMem_opsRows {p : Phase} {w : Nat → MicroOp} (c : Config) (hw : ∀ j, .uPhase p ≠ w j) :
    .uPhase p ∉ opsRows c w := by
  simp [opsRows, opsRow, opsSetCursor, opsSetRamXCounter, opsSetRamYCounter, opsWriteRam, frameC, hw]

/-- `SET_WINDOW` does not change the phase (R187). -/
@[simp] theorem uPhase_notMem_opsSetWindow (p : Phase) (c : Config) (xs ys xe ye : Half) :
    .uPhase p ∉ opsSetWindow c xs ys xe ye := by
  simp [opsSetWindow, opsSetRamXRange, opsSetRamYRange]

/-- `TURN_ON_DISPLAY` does not change the phase (R209). -/
@[simp] theorem uPhase_notMem_opsTurnOnDisplay (p : Phase) (c : Config) : .uPhase p ∉ opsTurnOnDisplay c := by
  simp [opsTurnOnDisplay, opsDisplayUpdate2, opsMasterActivation, opsTerminateFrame]

/-- Only `INIT` and `CLOSE` change the phase (R160). -/
theorem uPhase_notMem_expansion {i : Instr} (p : Phase) (c : Config) (hi : i ≠ .init) (hc : i ≠ .close) :
    .uPhase p ∉ expansion c i := by
  cases i
  case init => exact absurd rfl hi
  case close => exact absurd rfl hc
  case sendCommand => simp [expansion, opsSendCommand, frameC]
  case sendData => simp [expansion, opsSendData]
  case waitIdle => simp [expansion, opsWaitIdle]
  case setWindow => simp [expansion]
  case setCursor => simp [expansion, opsSetCursor, opsSetRamXCounter, opsSetRamYCounter]
  case turnOnDisplay => simp [expansion]
  case display => simp [expansion, opsDisplay, opsFullWindow, uPhase_notMem_opsRows]
  case clear => simp [expansion, opsClear, opsFullWindow, uPhase_notMem_opsRows]
  case pack => simp [expansion, opsPack]
  case cmdWriteRam => simp [expansion, opsWriteRam, frameC]
  all_goals simp [expansion, opsDriverOutput, opsBoosterSoftStart, opsWriteVcom, opsDummyLinePeriod, opsGateLineWidth,
    opsDataEntryMode, opsWriteLut, opsSetRamXRange, opsSetRamYRange, opsSetRamXCounter, opsSetRamYCounter,
    opsDisplayUpdate2, opsMasterActivation, opsTerminateFrame]

/-- Micro-operations without `uPHASE` leave the phase alone. -/
theorem foldl_phaseAfter_of_notMem {ops : List MicroOp} (h : ∀ p, .uPhase p ∉ ops) (p : Phase) :
    ops.foldl phaseAfter p = p := by
  induction ops with
  | nil => rfl
  | cons m ops ih =>
    have hm : phaseAfter p m = p := by
      cases m
      case uPhase q => exact absurd List.mem_cons_self (h q)
      all_goals rfl
    rw [List.foldl_cons, hm, ih fun q hq => h q (List.mem_cons_of_mem _ hq)]

/-- `INIT` is what leads to `Ready`, and that at its end (R134). -/
theorem opsInit_eq_append_ready (c : Config) : ∃ front, opsInit c = front ++ [.uPhase .ready] ∧ .uPhase .ready ∉ front :=
  ⟨_, rfl, by
    simp [opsResetPulse, opsConfigure, opsDriverOutput, opsBoosterSoftStart, opsWriteVcom, opsDummyLinePeriod,
      opsGateLineWidth, opsDataEntryMode, opsWriteLut]⟩

/-- An operation leads from the phase it needs to `Unpowered` or `Ready` (R130). -/
theorem expansion_phase (c : Config) (i : Instr) :
    (expansion c i).foldl phaseAfter (phaseNeeded i) = .unpowered ∨
      (expansion c i).foldl phaseAfter (phaseNeeded i) = .ready := by
  by_cases hi : i = .init
  · obtain ⟨front, hf, -⟩ := opsInit_eq_append_ready c
    exact .inr (by simp [hi, expansion, hf, phaseAfter])
  · by_cases hc : i = .close
    · exact .inl (by simp [hc, expansion, opsClose, phaseAfter])
    · exact .inr (by simp [foldl_phaseAfter_of_notMem fun p => uPhase_notMem_expansion p c hi hc, phaseNeeded, hi])

/-- An operation enters `Ready` with its last micro-operation, or not at all (R29). -/
theorem expansion_ready_last (c : Config) (i : Instr) : .uPhase .ready ∉ (expansion c i).dropLast := by
  by_cases hi : i = .init
  · obtain ⟨front, hf, hr⟩ := opsInit_eq_append_ready c
    simpa [hi, expansion, hf] using hr
  · by_cases hc : i = .close
    · simp [hc, expansion, opsClose]
    · exact fun h => uPhase_notMem_expansion _ c hi hc (List.mem_of_mem_dropLast h)

/-- Settles O32: a micro-operation leads where it and the pending ones led, and an accepted operation to `Unpowered` or
`Ready`; the one `uPHASE Ready` is the last of `INIT`. -/
theorem readyOnlyAfterTheFullSequence : Obligations.ReadyOnlyAfterTheFullSequence := by
  unfold Obligations.ReadyOnlyAfterTheFullSequence
  intro s t hphase hlast h
  obtain ⟨hh, hst⟩ := step_stepTo h
  cases hst with
  | performed hs hp =>
    rw [State.ReadyComesLast, hs] at hlast
    rw [State.PhaseOk, hs] at hphase
    refine ⟨fun ht => ?_, perform_ready_last hp hlast,
      fun hn hr => perform_enters_ready hp hh hlast hn hr⟩
    rw [perform_phase_to_come hp ht]
    exact hphase hh
  | taken hs ho hp ha =>
    refine ⟨fun _ => ?_, expansion_ready_last s.cfg _, fun hn hr => absurd hr hn⟩
    exact hp.symm ▸ expansion_phase s.cfg _
  | waited hs ho => exact ⟨hphase, hlast, fun hn hr => absurd hr hn⟩
  | flagged hs ho hf => exact ⟨hphase, hlast, fun hn hr => absurd hr hn⟩
  | wrotePay hs ho hb => exact ⟨hphase, hlast, fun hn hr => absurd hr hn⟩
  | wroteImg hs ho => exact ⟨hphase, hlast, fun hn hr => absurd hr hn⟩

/-! ## Flags (R30) -/

/-- Settles O23: `uPACK` and a presented word set flags; nothing clears one. -/
theorem flagsAreSticky : Obligations.FlagsAreSticky := by
  unfold Obligations.FlagsAreSticky
  intro s t h
  cases (step_stepTo h).2 with
  | performed hs hp =>
    obtain ⟨hf, hd⟩ := perform_flags hp
    rw [hf]
    exact ⟨id, hd, id, id⟩
  | flagged hs ho hf => simp +contextual
  | waited hs ho => exact ⟨id, id, id, id⟩
  | taken hs ho hp ha => exact ⟨id, id, id, id⟩
  | wrotePay hs ho hb => exact ⟨id, id, id, id⟩
  | wroteImg hs ho => exact ⟨id, id, id, id⟩

/-! ## Parameters and the host's memories (R62 to R64) -/

/-- What a write from address 0 leaves: its bytes, and the others as they were (R112). -/
theorem Memory.read_writeBytes_zero (m : Memory) (bytes : List Byte) (a : Nat) :
    Memory.read (Memory.writeBytes m 0 bytes) a = if a < bytes.length then bytes[a]? else Memory.read m a := by
  rw [Memory.read_writeBytes, if_neg a.not_lt_zero, Nat.sub_zero]
  split
  · rename_i ha; simp [ha]
  · rename_i ha; simp [List.getElem?_eq_none (Nat.le_of_not_lt ha)]

/-- Settles O24: no micro-operation and no acceptance writes `cfg`, `IMG` or `PAY`; the host's own write does. -/
theorem parametersAndHostMemoriesAreKept : Obligations.ParametersAndHostMemoriesAreKept := by
  unfold Obligations.ParametersAndHostMemoriesAreKept
  refine ⟨fun s t h => ?_, fun s bytes rest hl hi => ⟨fun ho => ?_, fun ho hb => ?_⟩⟩
  · obtain ⟨hh, hst⟩ := step_stepTo h
    cases hst with
    | performed hs hp =>
      have hP := perform_performed hp
      exact ⟨hP.cfg, absurd hP.img, absurd hP.pay⟩
    | wrotePay hs ho hb => exact ⟨rfl, absurd rfl, fun _ => ⟨s.idle_iff.2 ⟨hs, hh⟩, _, _, ho⟩⟩
    | wroteImg hs ho => exact ⟨rfl, fun _ => ⟨s.idle_iff.2 ⟨hs, hh⟩, _, _, ho⟩, absurd rfl⟩
    | waited hs ho => exact ⟨rfl, absurd rfl, absurd rfl⟩
    | flagged hs ho hf => exact ⟨rfl, absurd rfl, absurd rfl⟩
    | taken hs ho hp ha => exact ⟨rfl, absurd rfl, absurd rfl⟩
  · exact ⟨_, step_writeImg hl hi ho, Memory.read_writeBytes_zero _ _⟩
  · exact ⟨_, step_writePay hl hi ho hb, Memory.read_writeBytes_zero _ _⟩

/-! ## Who writes what (R110) -/

/-- Settles O25: a micro-operation writes what `Performed` grants it; every other step starts with `SEQ` empty and
changes no more than acceptance or the host may. -/
theorem onlyItsMicroOperationWritesARegister : Obligations.OnlyItsMicroOperationWritesARegister := by
  unfold Obligations.OnlyItsMicroOperationWritesARegister
  intro s t h
  obtain ⟨hh, hst⟩ := step_stepTo h
  have hidle : s.seq = [] → s.idle = true := fun hs => s.idle_iff.2 ⟨hs, hh⟩
  cases hst with
  | @performed m rest _ hs hp =>
    have hP := perform_performed hp
    have hnull : t.flags.nullImage = s.flags.nullImage := by rw [(perform_flags hp).1]
    have hillegal : t.flags.illegalReq = s.flags.illegalReq := by rw [(perform_flags hp).1]
    have hready : t.flags.notReady = s.flags.notReady := by rw [(perform_flags hp).1]
    simp only [hs, List.head?_cons, List.tail_cons, Option.some.injEq]
    refine ⟨?_, ?_, ?_, ?_, ?_, ?_, ?_, ?_, ?_, ?_, ?_, ?_, ?_⟩
    · contrapose!; exact fun hm => ⟨(hP.pack hm).1, (hP.pack hm).2.1⟩
    · contrapose!; exact hP.window
    · contrapose!; exact hP.cursor
    · contrapose!; exact hP.phase
    · contrapose!; exact hP.rst
    · contrapose!; exact hP.dc
    · contrapose!; exact hP.cs
    · simp [hP.fill, hP.imgw, hP.imgh, hP.plen]
    · simp [hnull, hillegal, hready]
    · contrapose!; exact fun hm => congrArg Flags.dimMismatch (hP.pack hm).2.2
    · contrapose!; exact fun hm => hP.polls hm.1
    · rcases hP.seq with hseq | ⟨hhalt, -⟩ | ⟨hm, -⟩
      · exact absurd hseq
      · exact fun _ => .inr (.inl hhalt)
      · exact fun _ => .inl hm
    · contrapose!
      intro hm
      obtain ⟨hopen, hwrite, hpoll⟩ := hm m rfl
      exact hP.halts hopen (by simpa using hwrite) hpoll
  | flagged hs ho hf => simp [hs, ho, hidle hs, hf]
  | taken hs ho hp ha => simp [State.take, hs, ho, hidle hs]
  | waited hs ho => simp [hs]
  | wrotePay hs ho hb => simp [hs]
  | wroteImg hs ho => simp [hs]

/-! ## The line latches (R32) -/

/-- From `s` to `t` the events `es` happen, and the latches follow them. -/
def Drives (es : List Event) (s t : State) : Prop :=
  t.trace = s.trace ++ es ∧ t.rst = es.foldl rstAfter s.rst ∧ t.dc = es.foldl dcAfter s.dc ∧
    t.cs = es.foldl csAfter s.cs

/-- Latches that follow the events go on holding the levels last driven. -/
theorem Drives.latchesAgree {es : List Event} {s t : State} (h : Drives es s t) (hs : s.LatchesAgree) :
    t.LatchesAgree := by
  obtain ⟨htrace, hrst, hdc, hcs⟩ := h
  obtain ⟨srst, sdc, scs⟩ := hs
  simp only [State.LatchesAgree, htrace, List.foldl_append, ← srst, ← sdc, ← scs]
  exact ⟨hrst, hdc, hcs⟩

/-- A write drives no line. -/
theorem performWrite_drives (bytes : List Byte) (s : State) : ∃ es, Drives es s (performWrite bytes s) := by
  rcases performWrite_cases bytes s with ⟨-, h⟩ | ⟨-, h⟩ <;> rw [h]
  · exact ⟨[.wr bytes], rfl, rfl, rfl, rfl⟩
  · exact ⟨[], by simp [Drives]⟩

/-- A micro-operation's latches follow its events. -/
theorem perform_drives {m : MicroOp} {s t : State} (h : perform m s = .next t) : ∃ es, Drives es s t := by
  cases m
  case uOpen =>
    cases h
    rcases performOpen_cases s with ⟨-, h⟩ | ⟨-, h⟩ <;> rw [h] <;> exact ⟨[.open _], rfl, rfl, rfl, rfl⟩
  case uClose => cases h; exact ⟨[.close], rfl, rfl, rfl, rfl⟩
  case uRst l => cases h; exact ⟨[.rst l], rfl, rfl, rfl, rfl⟩
  case uDc l => cases h; exact ⟨[.dc l], rfl, rfl, rfl, rfl⟩
  case uCs l => cases h; exact ⟨[.cs l], rfl, rfl, rfl, rfl⟩
  case uWrImm bytes => cases h; exact performWrite_drives _ s
  case uWrFill n => cases h; exact performWrite_drives _ s
  case uWrRow j => obtain ⟨-, rfl⟩ := performWriteFrom_next h; exact performWrite_drives _ s
  case uWrPay n => obtain ⟨-, rfl⟩ := performWriteFrom_next h; exact performWrite_drives _ s
  case uSleep ms => cases h; exact ⟨[.sleep ms], rfl, rfl, rfl, rfl⟩
  case uPoll =>
    cases h
    rcases performPoll_cases s with ⟨-, h⟩ | ⟨-, -, h⟩ | ⟨-, -, h⟩ <;> rw [h] <;>
      exact ⟨[.busy _], rfl, rfl, rfl, rfl⟩
  case uPack => cases h; rw [packImage_eq]; exact ⟨[], by simp [Drives]⟩
  all_goals cases h; exact ⟨[], by simp [Drives]⟩

/-- Settles O28: a latch changes with the event that drives its line, and with no other. -/
theorem stepKeepsLatches : Obligations.StepKeepsLatches := by
  unfold Obligations.StepKeepsLatches
  intro s t hlatch h
  cases (step_stepTo h).2 with
  | performed hs hp =>
    obtain ⟨es, hes⟩ := perform_drives hp
    exact hes.latchesAgree hlatch
  | waited hs ho => exact hlatch
  | flagged hs ho hf => exact hlatch
  | taken hs ho hp ha => exact hlatch
  | wrotePay hs ho hb => exact hlatch
  | wroteImg hs ho => exact hlatch

/-! ## Halting (R31, R236) -/

/-- Settles O30: a micro-operation goes on under the same cause, or halts with a cause and an empty `SEQ`; no other step
halts. -/
theorem stepKeepsHaltAndCause : Obligations.StepKeepsHaltAndCause := by
  unfold Obligations.StepKeepsHaltAndCause
  intro s t ⟨hcause, _⟩ h
  obtain ⟨hh, hst⟩ := step_stepTo h
  have running : ∀ {u : State}, u.halt = false → u.cause = s.cause → u.HaltOk := fun hu hc =>
    ⟨fun _ => hc.trans (hcause hh), fun hu' => absurd hu (by simp [hu'])⟩
  cases hst with
  | performed hs hp =>
    rcases (perform_performed hp).halt hh with ⟨ht, hc⟩ | ⟨ht, hc, hseq⟩
    · exact running ht hc
    · exact ⟨fun ht' => absurd ht (by simp [ht']), fun _ => ⟨hc, hseq⟩⟩
  | waited hs ho => exact running hh rfl
  | flagged hs ho hf => exact running hh rfl
  | taken hs ho hp ha => exact running hh rfl
  | wrotePay hs ho hb => exact running hh rfl
  | wroteImg hs ho => exact running hh rfl

/-! ## Who moves (R28) -/

/-- Settles O4, which is what `step_present` says. -/
theorem stepExecutesThePresentedInstruction : Obligations.StepExecutesThePresentedInstruction := by
  unfold Obligations.StepExecutesThePresentedInstruction
  intro s w rest i hl hi ho hd
  exact step_present hl hi ho hd

/-- Settles O5: `SEQ` not empty, halted, idle without a request. -/
theorem stepWithoutAnInstruction : Obligations.StepWithoutAnInstruction := by
  unfold Obligations.StepWithoutAnInstruction
  intro s hl
  exact ⟨fun m rest hh hs => step_perform hl hh hs, step_halted hl, step_wait hl⟩

/-! ## Power-on (R40) -/

/-- Settles O33: with an empty trace, an empty `SEQ` and empty memories there is nothing an invariant could refuse. -/
theorem powerOnMeetsTheInvariants : Obligations.PowerOnMeetsTheInvariants := by
  unfold Obligations.PowerOnMeetsTheInvariants
  refine ⟨fun c => ⟨rfl, ⟨rfl, rfl, rfl⟩, ?_, ?_, ?_, ?_, ?_⟩, by decide, rfl⟩
  · simp [State.MemoriesOk, State.powerOn]
  · simp [State.HaltOk, State.powerOn]
  · simp [State.InRange, State.powerOn]
  · simp [State.PhaseOk, State.powerOn]
  · simp [State.ReadyComesLast, State.powerOn]

/-- Settles O34, field by field. -/
theorem powerOnState : Obligations.PowerOnState := by
  unfold Obligations.PowerOnState
  intro c
  have hflags : (State.powerOn c).flags.bits = 0 := by simp [State.powerOn, Flags.bits, fieldAt]
  have hstat : (State.powerOn c).stat = 0x0004 := by
    rw [State.stat, hflags]
    simp [State.powerOn, State.idle, State.orientBits, Phase.code, Cause.code, fieldAt]
  exact ⟨rfl, rfl, rfl, rfl, hflags, rfl, rfl, rfl, rfl, rfl, rfl, rfl, rfl, rfl, rfl, rfl, rfl, rfl, rfl, rfl, rfl,
    Memory.read_nil, rfl, hstat⟩

/-! ## The status (R33) -/

/-- The bits of a register that a field gives it. -/
@[simp] theorem getLsbD_fieldAt {n : Nat} (w lo : Nat) (v : BitVec n) (k : Nat) :
    (fieldAt w lo v).getLsbD k = (decide (k < w) && decide (lo ≤ k) && v.getLsbD (k - lo)) := by
  by_cases hk : k < w
  · by_cases hlo : k < lo
    · simp [fieldAt, hlo]
    · simp [fieldAt, hk, hlo, Nat.le_of_not_lt hlo]
  · simp [fieldAt, hk]

/-- The bits of a register that a field gives it, in range. -/
@[simp] theorem getElem_fieldAt {n : Nat} (w lo : Nat) (v : BitVec n) (k : Nat) (h : k < w) :
    (fieldAt w lo v)[k] = (decide (lo ≤ k) && v.getLsbD (k - lo)) := by
  rw [← BitVec.getLsbD_eq_getElem, getLsbD_fieldAt]
  simp [h]

/-- A field is read back where it is. -/
theorem extractLsb'_fieldAt_self {n w lo : Nat} (v : BitVec n) (h : lo + n ≤ w) :
    (fieldAt w lo v).extractLsb' lo n = v := by
  ext k hk
  simp [show lo + k < w by omega, hk]

/-- A field has no bit below its place. -/
theorem extractLsb'_fieldAt_below {n w lo start len : Nat} (v : BitVec n) (h : start + len ≤ lo) :
    (fieldAt w lo v).extractLsb' start len = 0 := by
  ext k hk
  simp [show start + k < lo by omega]

/-- A field has no bit above its width. -/
theorem extractLsb'_fieldAt_above {n w lo start len : Nat} (v : BitVec n) (h : lo + n ≤ start) :
    (fieldAt w lo v).extractLsb' start len = 0 := by
  ext k hk
  simp [show n ≤ start + k - lo by omega]

/-- Settles O35: the fields of `STAT` do not overlap, so that each is read back from its place. -/
theorem statFields : Obligations.StatFields := by
  unfold Obligations.StatFields
  intro s
  have hidle : s.idle = decide (s.seq = [] ∧ s.halt = false) := Bool.eq_iff_iff.2 (by simpa using s.idle_iff)
  have horient : s.stat.extractLsb' 12 2 = s.orientBits := by
    simp [State.stat, BitVec.extractLsb'_or, extractLsb'_fieldAt_self, extractLsb'_fieldAt_above]
  refine ⟨?phase, ?idle, ?halt, ?cause, ?gap, ?nullImage, ?dimMismatch, ?illegalReq, ?notReady, ?noValue, ?value, ?top⟩
  case idle => rw [← hidle]; simp [State.stat]
  case noValue => exact fun ho => by rw [horient, State.orientBits, ho]
  case value => exact fun o ho => by rw [horient, State.orientBits, ho]
  case halt | nullImage | dimMismatch | illegalReq | notReady => simp [State.stat, Flags.bits]
  case phase | cause | gap | top =>
    simp [State.stat, BitVec.extractLsb'_or, extractLsb'_fieldAt_self, extractLsb'_fieldAt_below,
      extractLsb'_fieldAt_above]

end Sys2Proof.Machine

/-! PROOFS. The memories keep their form and their bounds (spec/20_memory.md R60 to R63). -/

namespace Sys2Proof.Machine

/-! ## The geometry (R5, R6) -/

/-- The legal geometries, in bytes of a row and rows (R5, R6). -/
theorem Config.legal_geometry {c : Config} (h : c.legal = true) :
    c.width = 8 * c.wb ∧ 1 ≤ c.wb ∧ c.wb ≤ 256 ∧ 1 ≤ c.height ∧ c.height ≤ 65535 := by
  simp only [Config.legal, Config.legalGeometry, Bool.and_eq_true, beq_iff_eq, decide_eq_true_eq] at h
  unfold Config.wb
  omega

/-- The byte that holds a pixel of the panel is a byte of `BUF` (R61). -/
theorem pixelBit_div_lt_buflen {c : Config} (hl : c.legal = true) {p : Nat × Nat} (hx : p.1 < c.width)
    (hy : p.2 < c.height) : pixelBit c p / 8 < c.buflen := by
  obtain ⟨hw, -⟩ := Config.legal_geometry hl
  rw [Nat.div_lt_iff_lt_mul (by decide), Config.buflen]
  calc pixelBit c p < c.width * (p.2 + 1) := by rw [pixelBit]; linarith
    _ ≤ c.width * c.height := Nat.mul_le_mul_left _ hy
    _ = c.wb * c.height * 8 := by rw [hw]; ring

/-! ## Packing stays inside `BUF` (R171, R172, R176) -/

/-- An image that has an orientation has its pixels on the panel (R171, R172, R176). -/
theorem panelPixel_lt {c : Config} {w h x y : Nat} (ho : orientation c w h ≠ .none) (hx : x < w) (hy : y < h) :
    (panelPixel c (orientation c w h) x y).1 < c.width ∧ (panelPixel c (orientation c w h) x y).2 < c.height := by
  unfold orientation at ho ⊢
  split_ifs at ho ⊢ with ha hr
  · exact ⟨ha.1 ▸ hx, ha.2 ▸ hy⟩
  · exact ⟨hr.2 ▸ hy, by simp only [panelPixel]; omega⟩
  · exact absurd rfl ho

/-- A property that `BUF` has when it is all `0xFF`, and keeps at every pixel of the image, `uPACK` establishes (R173).
-/
theorem packed_induction {s : State} {o : Orient} {P : Memory → Prop} (hfill : P (Memory.filled s.cfg.buflen 0xFF))
    (hpixel : ∀ x y m, o ≠ .none → x < s.imgwVal → y < s.imghVal → P m → P (packPixel s o y m x)) :
    P (packed s o) := by
  have hrows : o ≠ .none →
      P ((List.range s.imghVal).foldl (packRow s o) (Memory.filled s.cfg.buflen 0xFF)) := fun ho =>
    List.foldlRecOn _ _ hfill fun _ hm y hy => List.foldlRecOn _ _ hm fun _ hm' x hx =>
      hpixel x y _ ho (List.mem_range.1 hx) (List.mem_range.1 hy) hm'
  cases o with
  | none => exact hfill
  | aligned => exact hrows (by decide)
  | rotated => exact hrows (by decide)

/-- `uPACK` lists no byte outside `BUF` (R61, R176). -/
theorem mem_packed_lt_buflen {s : State} (hl : s.cfg.legal = true) :
    ∀ x ∈ packed s (orientation s.cfg s.imgwVal s.imghVal), x.1 < s.cfg.buflen := by
  refine packed_induction (P := fun m => ∀ x ∈ m, x.1 < s.cfg.buflen) (fun _ => Memory.mem_filled)
    fun x y m ho hx hy hm c hc => ?_
  unfold packPixel at hc
  split at hc
  · rcases mem_clearBit hc with hk | hc
    · obtain ⟨hpx, hpy⟩ := panelPixel_lt ho hx hy
      exact hk ▸ pixelBit_div_lt_buflen hl hpx hpy
    · exact hm c hc
  · exact hm c hc

/-! ## The invariant -/

/-- A micro-operation keeps the memories in form: only `uPACK` writes one (R110). -/
theorem perform_memoriesOk {m : MicroOp} {s t : State} (h : perform m s = .next t) (hl : s.cfg.legal = true)
    (hs : s.MemoriesOk) : t.MemoriesOk := by
  have hP := perform_performed h
  obtain ⟨hbuf, himg, hpay, hbufIn, hpayIn⟩ := hs
  unfold State.MemoriesOk
  rw [hP.img, hP.pay, hP.cfg]
  by_cases hm : m = .uPack
  · subst hm
    cases h
    rw [packImage_eq]
    exact ⟨wf_packed _ _, himg, hpay, mem_packed_lt_buflen hl, hpayIn⟩
  · rw [(hP.pack hm).1]
    exact ⟨hbuf, himg, hpay, hbufIn, hpayIn⟩

/-- Settles O29: `uPACK` writes `BUF` inside its bounds, the host writes `PAY` inside its own and `IMG` in form, and no
other step writes a memory. -/
theorem stepKeepsMemories : Obligations.StepKeepsMemories := by
  unfold Obligations.StepKeepsMemories
  intro s t hs h
  have hl : s.cfg.legal = true := (step_cases h).1
  cases (step_stepTo h).2 with
  | performed _ hp => exact perform_memoriesOk hp hl hs
  | waited => exact hs
  | flagged => exact hs
  | taken => exact hs
  | wrotePay _ _ hb =>
    obtain ⟨hbuf, himg, hpay, hbufIn, hpayIn⟩ := hs
    refine ⟨hbuf, himg, Memory.wf_writeBytes hpay _ _, hbufIn, fun x hx => ?_⟩
    rcases Memory.mem_writeBytes hx with ⟨-, hlt⟩ | hx
    · exact hlt.trans_le (by simpa using hb)
    · exact hpayIn x hx
  | wroteImg =>
    obtain ⟨hbuf, himg, hpay, hbufIn, hpayIn⟩ := hs
    exact ⟨hbuf, Memory.wf_writeBytes himg _ _, hpay, hbufIn, hpayIn⟩

end Sys2Proof.Machine

/-! PROOFS. What an operation does in a quiet environment (no abort, the busy line idle), as a function of the state;
and `CLEAR` in it (spec/44_display_clear_busy.md R215). -/

namespace Sys2Proof.Machine

/-! ## A micro-operation in a quiet environment -/

/-- What a micro-operation leaves when the transport opens and does not abort and the busy line reads 0 (R110), the
answers apart. -/
def State.quietly (s : State) : MicroOp → State
  | .uOpen => s.emit (.open true)
  | .uClose => s.emit .close
  | .uRst l => { s.emit (.rst l) with rst := .driven l }
  | .uDc l => { s.emit (.dc l) with dc := .driven l }
  | .uCs l => { s.emit (.cs l) with cs := .driven l }
  | .uWrImm bytes => s.emit (.wr bytes)
  | .uWrRow j => s.emit (.wr (s.bytesAt .buf (j * s.cfg.wb) s.cfg.wb))
  | .uWrFill n => s.emit (.wr (List.replicate n s.fillVal))
  | .uWrPay n => s.emit (.wr (s.bytesAt .pay 0 n))
  | .uSleep ms => s.emit (.sleep ms)
  | .uPhase p => { s with phase := p }
  | .uSetWin xs ys xe ye => { s with xs := .value xs, ys := .value ys, xe := .value xe, ye := .value ye }
  | .uSetCur x y => { s with cx := .value x, cy := .value y }
  | .uPack => s.packImage
  | .uPoll => { s.emit (.busy .low) with polls := 0 }

/-- A row of `BUF` lies inside it (R156, R223). -/
theorem row_le_sizeOf {s : State} {j : Nat} (h : j < s.cfg.height) : j * s.cfg.wb + s.cfg.wb ≤ s.sizeOf .buf :=
  calc j * s.cfg.wb + s.cfg.wb = s.cfg.wb * (j + 1) := by ring
    _ ≤ s.cfg.wb * s.cfg.height := Nat.mul_le_mul_left _ h

/-- A transport that opens (R150). -/
theorem performOpen_of_opensNow {s : State} (h : s.opensNow = true) :
    performOpen s = s.drawnOpen.emit (.open true) := by
  rcases performOpen_cases s with ⟨-, he⟩ | ⟨hn, -⟩
  · exact he
  · simp [h] at hn

/-- A write that does not abort emits its bytes (R155). -/
theorem performWrite_of_neverAborts {s : State} (h : s.NeverAborts) (bytes : List Byte) :
    performWrite bytes s = s.drawnAbort.emit (.wr bytes) := by
  have hn : s.abortsNow = false := h.now _
  rcases performWrite_cases bytes s with ⟨-, he⟩ | ⟨hy, -⟩
  · exact he
  · simp [hn] at hy

/-- A sample of an idle busy line ends the wait (R201). -/
theorem performPoll_of_alwaysIdle {s : State} (h : s.AlwaysIdle) :
    performPoll s = { s.drawnBusy.emit (.busy .low) with polls := 0 } := by
  have hn : s.busyNow = false := h.now _
  rcases performPoll_cases s with ⟨-, he⟩ | ⟨hy, -⟩ | ⟨hy, -⟩
  · exact he
  · simp [hn] at hy
  · simp [hn] at hy

/-- No micro-operation that goes on in a quiet environment changes the configuration, halts, or touches `SEQ` or the
host's moves. -/
@[simp] theorem State.quietly_kept (s : State) (m : MicroOp) : (s.quietly m).cfg = s.cfg ∧
    (s.quietly m).halt = s.halt ∧ (s.quietly m).seq = s.seq ∧ (s.quietly m).host = s.host := by
  cases m
  case uPack => simp [State.quietly, packImage_eq]
  all_goals exact ⟨rfl, rfl, rfl, rfl⟩

/-- What a micro-operation leaves does not depend on the micro-operations after it. -/
theorem State.quietly_withSeq (s : State) (m : MicroOp) (ops : List MicroOp) :
    State.quietly { s with seq := ops } m = { s.quietly m with seq := ops } := by
  cases m
  case uPack => simp only [State.quietly, packImage_eq]; rfl
  all_goals rfl

/-- In a quiet environment a micro-operation is performed as `quietly` says, and the environment stays quiet. -/
theorem perform_quietly {m : MicroOp} {s : State} (hopen : m = .uOpen → s.opensNow = true) (hrange : m.inRange s.cfg)
    (hwrite : m.isWrite = true → s.NeverAborts) (hpoll : m = .uPoll → s.AlwaysIdle) :
    ∃ t, perform m s = .next t ∧ t.apartFromAnswers = s.apartFromAnswers.quietly m ∧
      (s.NeverAborts → t.NeverAborts) ∧ (s.AlwaysIdle → t.AlwaysIdle) := by
  have write : m.isWrite = true → ∀ bytes, (performWrite bytes s).apartFromAnswers =
      s.apartFromAnswers.emit (.wr bytes) ∧ (s.NeverAborts → (performWrite bytes s).NeverAborts) ∧
      (s.AlwaysIdle → (performWrite bytes s).AlwaysIdle) := fun hm bytes => by
    rw [performWrite_of_neverAborts (hwrite hm)]
    exact ⟨rfl, fun ha => ha.later, id⟩
  cases m
  case uOpen =>
    refine ⟨_, rfl, ?_⟩
    rw [performOpen_of_opensNow (hopen rfl)]
    exact ⟨rfl, id, id⟩
  case uWrImm bytes => exact ⟨_, rfl, write rfl _⟩
  case uWrFill n => exact ⟨_, rfl, write rfl _⟩
  case uWrRow j => exact ⟨_, performWriteFrom_of_le (row_le_sizeOf hrange), write rfl _⟩
  case uWrPay n => exact ⟨_, performWriteFrom_of_le ((Nat.zero_add n).trans_le hrange), write rfl _⟩
  case uPoll =>
    refine ⟨_, rfl, ?_⟩
    rw [performPoll_of_alwaysIdle (hpoll rfl)]
    exact ⟨rfl, id, fun hi => hi.later⟩
  case uPack =>
    refine ⟨_, rfl, ?_⟩
    simp only [State.quietly, packImage_eq]
    exact ⟨rfl, id, id⟩
  all_goals exact ⟨_, rfl, rfl, id, id⟩

/-! ## A run in a quiet environment -/

/-- These micro-operations need no answer to `open()`, which only `INIT` asks for, and their accesses are in range. -/
def Smooth (c : Config) (ops : List MicroOp) : Prop := ∀ m ∈ ops, m ≠ .uOpen ∧ m.inRange c

@[simp] theorem smooth_nil (c : Config) : Smooth c [] := List.forall_mem_nil _

@[simp] theorem smooth_cons (c : Config) (m : MicroOp) (ops : List MicroOp) :
    Smooth c (m :: ops) ↔ (m ≠ .uOpen ∧ m.inRange c) ∧ Smooth c ops := List.forall_mem_cons

@[simp] theorem smooth_append (c : Config) (ops ops' : List MicroOp) :
    Smooth c (ops ++ ops') ↔ Smooth c ops ∧ Smooth c ops' := List.forall_mem_append

@[simp] theorem smooth_flatMap {α : Type} (c : Config) (l : List α) (f : α → List MicroOp) :
    Smooth c (l.flatMap f) ↔ ∀ x ∈ l, Smooth c (f x) := List.forall_mem_flatMap

/-- Nothing in the environment or the state stops these micro-operations or makes them wait. -/
structure State.Calm (ops : List MicroOp) (s : State) : Prop where
  legal   : s.cfg.legal = true
  running : s.halt = false
  smooth  : Smooth s.cfg ops
  writes  : ∀ m ∈ ops, m.isWrite = true → s.NeverAborts
  polls   : .uPoll ∈ ops → s.AlwaysIdle

/-- In a quiet environment the micro-operations at the head of `SEQ` are performed one after the other. -/
theorem steps_quietly {ops rest : List MicroOp} {s : State} (hs : s.seq = ops ++ rest) (h : s.Calm ops) :
    ∃ n t, Steps n s t ∧ t.apartFromAnswers = ops.foldl State.quietly { s.apartFromAnswers with seq := rest } := by
  induction ops generalizing s with
  | nil => exact ⟨0, s, rfl, by rw [List.foldl_nil, ← hs.trans (List.nil_append rest)]; rfl⟩
  | cons m ops ih =>
    obtain ⟨hopen, hrange⟩ := h.smooth m List.mem_cons_self
    obtain ⟨u, hu, hapart, habort, hbusy⟩ := perform_quietly (s := { s with seq := ops ++ rest })
      (fun hm => absurd hm hopen) hrange (h.writes m List.mem_cons_self) (fun hm => h.polls (hm ▸ List.mem_cons_self))
    obtain ⟨hcfg, hhalt, hseq, -⟩ := State.quietly_kept (State.apartFromAnswers { s with seq := ops ++ rest }) m
    rw [← hapart] at hcfg hhalt hseq
    have hcalm : u.Calm ops :=
      { legal := (congrArg Config.legal hcfg).trans h.legal
        running := hhalt.trans h.running
        smooth := fun k hk => hcfg ▸ h.smooth k (List.mem_cons_of_mem _ hk)
        writes := fun k hk hw => habort (h.writes k (List.mem_cons_of_mem _ hk) hw)
        polls := fun hmem => hbusy (h.polls (List.mem_cons_of_mem _ hmem)) }
    obtain ⟨n, t, hsteps, ht⟩ := ih (s := u) hseq hcalm
    refine ⟨1 + n, t, (steps_perform h.legal h.running hs hu).trans hsteps, ht.trans ?_⟩
    rw [List.foldl_cons, hapart, State.quietly_withSeq s.apartFromAnswers]
    exact congrArg (ops.foldl State.quietly { · with seq := rest })
      (State.quietly_withSeq s.apartFromAnswers m (ops ++ rest))

/-- What a quiet run leaves alone. -/
theorem foldl_quietly_kept (ops : List MicroOp) (s : State) : (ops.foldl State.quietly s).halt = s.halt ∧
    (ops.foldl State.quietly s).seq = s.seq ∧ (ops.foldl State.quietly s).host = s.host := by
  induction ops generalizing s with
  | nil => exact ⟨rfl, rfl, rfl⟩
  | cons m ops ih => simpa using ih (s.quietly m)

/-- In a quiet environment an operation completes, as its micro-operations say. -/
theorem completes_quietly {s : State} (h : s.Calm s.seq) :
    ∃ t, Completes s t ∧ t.apartFromAnswers = s.seq.foldl State.quietly { s.apartFromAnswers with seq := [] } := by
  obtain ⟨n, t, hsteps, ht⟩ := steps_quietly (List.append_nil _).symm h
  obtain ⟨hhalt, hseq, hhost⟩ := foldl_quietly_kept s.seq { s.apartFromAnswers with seq := [] }
  rw [← ht] at hhalt hseq hhost
  exact ⟨t, ⟨⟨n, hsteps⟩, t.idle_iff.2 ⟨hseq, hhalt.trans h.running⟩, hhost⟩, ht⟩

/-! ## The frames of an operation in a quiet environment -/

/-- Frames have been sent, the last of them of kind `l` (R162). -/
def State.sent (l : Level) (es : List Event) (s : State) : State :=
  { s with dc := .driven l, cs := .driven .high, trace := s.trace ++ es }

/-- Frames after frames. -/
@[simp] theorem State.sent_sent (l k : Level) (es fs : List Event) (s : State) :
    (s.sent l es).sent k fs = s.sent k (es ++ fs) := by
  simp [State.sent]

/-- Polling after frames (R190, R209). -/
@[simp] theorem State.quietly_uPoll_sent (l : Level) (es : List Event) (s : State) :
    (s.sent l es).quietly .uPoll = State.sent l (es ++ [.busy .low]) { s with polls := 0 } := by
  simp [State.sent, State.quietly, State.emit]

@[simp] theorem State.quietly_uSetWin (xs ys xe ye : Half) (s : State) : s.quietly (.uSetWin xs ys xe ye) =
    { s with xs := .value xs, ys := .value ys, xe := .value xe, ye := .value ye } := rfl

@[simp] theorem State.quietly_uSetCur (x y : Half) (s : State) :
    s.quietly (.uSetCur x y) = { s with cx := .value x, cy := .value y } := rfl

/-- A micro-operation writes these bytes in `s`, and in every state with the same memory to read and the same `FILL`. -/
def State.Writes (s : State) (m : MicroOp) (bytes : List Byte) : Prop :=
  ∀ t : State, t.cfg = s.cfg → t.buf = s.buf → t.fill = s.fill → t.quietly m = t.emit (.wr bytes)

theorem writes_uWrImm (s : State) (bytes : List Byte) : s.Writes (.uWrImm bytes) bytes := fun _ _ _ _ => rfl

theorem writes_uWrFill (s : State) (n : Nat) : s.Writes (.uWrFill n) (List.replicate n s.fillVal) :=
  fun _ _ _ hf => by simp [State.quietly, State.fillVal, hf]

theorem State.Writes.sent {s : State} {m : MicroOp} {bytes : List Byte} (h : s.Writes m bytes) (l : Level)
    (es : List Event) (x y : Held Half) (n : Nat) :
    (State.sent l es { s with cx := x, cy := y, polls := n }).Writes m bytes := h

/-- One frame (R162). -/
theorem foldl_frame {s : State} {m : MicroOp} {bytes : List Byte} (h : s.Writes m bytes) (l : Level) :
    (frame l m).foldl State.quietly s = s.sent l [.dc l, .cs .low, .wr bytes, .cs .high] := by
  have hw := h ((s.quietly (.uDc l)).quietly (.uCs .low)) rfl rfl rfl
  simp only [frame, List.foldl_cons, List.foldl_nil, hw]
  simp [State.quietly, State.sent, State.emit]

@[simp] theorem foldl_frameC (s : State) (code : Byte) :
    (frameC code).foldl State.quietly s = s.sent .low (commandFrame code) :=
  foldl_frame (writes_uWrImm s [code]) .low

@[simp] theorem foldl_frameD (s : State) (bytes : List Byte) :
    (frameD bytes).foldl State.quietly s = s.sent .high (dataFrame bytes) :=
  foldl_frame (writes_uWrImm s bytes) .high

/-- A payload, in one frame or in one for each byte (R163). -/
theorem foldl_payload (c : Config) (b : Byte) (bs : List Byte) (s : State) :
    (payload c (b :: bs)).foldl State.quietly s = s.sent .high (payloadFrames c (b :: bs)) := by
  unfold payload payloadFrames
  split
  · induction bs generalizing b s with
    | nil => simp
    | cons b' bs ih => rw [List.flatMap_cons, List.foldl_append, ih]; simp
  · exact foldl_frameD s _

/-- A panel command with a payload (R163). -/
@[simp] theorem foldl_cmd_cons (c : Config) (code b : Byte) (bs : List Byte) (s : State) :
    (cmd c code (b :: bs)).foldl State.quietly s = s.sent .high (commandEvents c code (b :: bs)) := by
  simp [cmd, foldl_payload, commandEvents]

/-- A panel command without payload (R207, R208). -/
@[simp] theorem foldl_cmd_nil (c : Config) (code : Byte) (s : State) :
    (cmd c code []).foldl State.quietly s = s.sent .low (commandFrame code) := foldl_frameC s code

/-! ## The parts of `CLEAR` and `DISPLAY` in a quiet environment -/

/-- `SET_WINDOW` (R187). -/
theorem foldl_opsSetWindow (c : Config) (xs ys xe ye : Half) (s : State) :
    (opsSetWindow c xs ys xe ye).foldl State.quietly s =
      State.sent .high (windowEvents c xs ys xe ye)
        { s with xs := .value xs, ys := .value ys, xe := .value xe, ye := .value ye } := by
  simp [opsSetWindow, opsSetRamXRange, opsSetRamYRange, payloadSetRamXRange, payloadSetRamYRange, windowEvents]

/-- `SET_CURSOR` (R190). -/
theorem foldl_opsSetCursor (c : Config) (x y : Half) (s : State) :
    (opsSetCursor c x y).foldl State.quietly s =
      State.sent .high (cursorEvents c x y ++ [.busy .low])
        { s with cx := .value x, cy := .value y, polls := 0 } := by
  simp [opsSetCursor, opsSetRamXCounter, opsSetRamYCounter, payloadSetRamXCounter, payloadSetRamYCounter, cursorEvents]

/-- `TURN_ON_DISPLAY` (R209). -/
theorem foldl_opsTurnOnDisplay (c : Config) (s : State) :
    (opsTurnOnDisplay c).foldl State.quietly s =
      State.sent .low (activationEvents c ++ [.busy .low]) { s with polls := 0 } := by
  simp [opsTurnOnDisplay, opsDisplayUpdate2, payloadDisplayUpdate2, opsMasterActivation, opsTerminateFrame,
    activationEvents]

/-- One row (R210). -/
theorem foldl_opsRow {s : State} {w : Nat → MicroOp} {j : Nat} {bytes : List Byte} (c : Config)
    (hw : s.Writes (w j) bytes) :
    (opsRow c w j).foldl State.quietly s =
      State.sent .high (rowEvents c j bytes)
        { s with cx := .value 0, cy := .value (BitVec.ofNat 16 j), polls := 0 } := by
  rw [opsRow, opsWriteRam, List.foldl_append, foldl_opsSetCursor, List.foldl_append, foldl_frameC,
    State.sent_sent, foldl_frame (hw.sent _ _ _ _ _)]
  simp [rowEvents, dataFrame]

/-- The first rows, at least one (R210). -/
theorem foldl_rows {s : State} {w : Nat → MicroOp} {bytes : Nat → List Byte} (c : Config)
    (hw : ∀ j, s.Writes (w j) (bytes j)) (n : Nat) :
    ((List.range (n + 1)).flatMap (opsRow c w)).foldl State.quietly s =
      State.sent .high ((List.range (n + 1)).flatMap fun j => rowEvents c j (bytes j))
        { s with cx := .value 0, cy := .value (BitVec.ofNat 16 n), polls := 0 } := by
  induction n with
  | zero => simp [foldl_opsRow c (hw 0)]
  | succ n ih =>
    rw [List.range_succ, List.flatMap_append, List.foldl_append, ih, List.flatMap_append, List.flatMap_singleton,
      List.flatMap_singleton, foldl_opsRow c ((hw (n + 1)).sent _ _ _ _ _)]
    simp [State.sent]

/-! ## `CLEAR` in a quiet environment (R215) -/

/-- The micro-operations of `CLEAR`, one after the other. -/
theorem foldl_opsClear {c : Config} (hl : c.legal = true) (s : State) :
    (opsClear c).foldl State.quietly s =
      State.sent .low (streamEvents c fun _ => List.replicate c.wb s.fillVal)
        { s with
          xs := .value 0, ys := .value 0, xe := .value (lastColumn c), ye := .value (lastRow c), cx := .value 0,
          cy := .value (lastRow c), polls := 0 } := by
  obtain ⟨-, -, -, hh, -⟩ := Config.legal_geometry hl
  obtain ⟨n, hn⟩ := Nat.exists_eq_add_of_le' hh
  have hw (j : Nat) : State.Writes (State.sent .high (windowEvents c 0 0 (lastColumn c) (lastRow c))
      { s with xs := .value 0, ys := .value 0, xe := .value (lastColumn c), ye := .value (lastRow c) })
      (.uWrFill c.wb) (List.replicate c.wb s.fillVal) := writes_uWrFill s c.wb
  rw [opsClear, opsRows, opsFullWindow, List.foldl_append, List.foldl_append, foldl_opsSetWindow, hn,
    foldl_rows c hw n, foldl_opsTurnOnDisplay]
  simp [State.sent, streamEvents, lastRow, hn]

/-- An immediate frame asks nothing of the state (R162). -/
@[simp] theorem smooth_frame_uWrImm (c : Config) (l : Level) (bytes : List Byte) :
    Smooth c (frame l (.uWrImm bytes)) := by
  simp [frame, MicroOp.inRange]

/-- Nor does a panel command (R163). -/
@[simp] theorem smooth_cmd (c d : Config) (code : Byte) (bytes : List Byte) : Smooth d (cmd c code bytes) := by
  cases bytes with
  | nil => simp [cmd, frameC]
  | cons b bs => cases hf : c.framePerByte <;> simp [cmd, payload, frameC, frameD, hf]

/-- Nor does `CLEAR`, which reads no memory (R215). -/
theorem smooth_opsClear (c : Config) : Smooth c (opsClear c) := by
  simp [opsClear, opsFullWindow, opsSetWindow, opsSetRamXRange, opsSetRamYRange, opsRows, opsRow, opsSetCursor,
    opsSetRamXCounter, opsSetRamYCounter, opsWriteRam, frameC, opsTurnOnDisplay, opsDisplayUpdate2, opsMasterActivation,
    opsTerminateFrame, frame, MicroOp.inRange]

/-- In a quiet environment `CLEAR f` completes: it streams the fill byte and writes its registers, and nothing else
changes. -/
theorem clear_completes {s : State} (f : Byte) (h : s.IdleIn .ready) (ha : s.NeverAborts) (hb : s.AlwaysIdle) :
    ∃ a t, exec (.clear f) s = .next a ∧ Completes a t ∧
      t.apartFromAnswers = State.apartFromAnswers { s with
        polls := 0, fill := .value f, xs := .value 0, ys := .value 0, xe := .value (lastColumn s.cfg),
        ye := .value (lastRow s.cfg), cx := .value 0, cy := .value (lastRow s.cfg), dc := .driven .low,
        cs := .driven .high, trace := s.trace ++ streamEvents s.cfg (fun _ => List.replicate s.cfg.wb f) } := by
  obtain ⟨hl, hi, hp⟩ := h
  obtain ⟨hseq, hhalt⟩ := s.idle_iff.1 hi
  have hcalm : (s.take (.clear f)).Calm (s.take (.clear f)).seq :=
    { legal := hl, running := hhalt, smooth := smooth_opsClear s.cfg, writes := fun _ _ _ => ha, polls := fun _ => hb }
  obtain ⟨t, hc, ht⟩ := completes_quietly hcalm
  refine ⟨_, t, exec_of_phase hi hp rfl, hc, ht.trans ?_⟩
  refine (foldl_opsClear hl _).trans ?_
  simp [State.sent, State.take, accepted, State.apartFromAnswers, State.fillVal, Held.get, hseq]

end Sys2Proof.Machine

/-! PROOFS. What the informative panel model makes of the frames of `CLEAR` (spec/20_memory.md R74, R75). -/

namespace Sys2Proof.Machine

/-! ## The codes and numbers of the payloads -/

/-- No two of the codes the panel view knows are the same (R11). -/
theorem panelCodes_ne {c : Config} (h : c.legal = true) :
    [c.codes.masterActivation, c.codes.writeRam, c.codes.setRamXRange, c.codes.setRamYRange, c.codes.setRamXCounter,
      c.codes.setRamYCounter, c.codes.displayUpdate2, c.codes.terminateFrame].Pairwise fun k k' => k' ≠ k := by
  have hperm : c.codes.toList.isPerm fifteenCodes = true := by
    simp only [Config.legal, Config.legalCodes, Bool.and_eq_true] at h
    exact h.1.2
  have hnodup : c.codes.toList.Nodup := (List.isPerm_iff.1 hperm).nodup_iff.2 (by decide)
  simp only [PanelCodes.toList, List.nodup_cons, List.mem_cons, List.not_mem_nil, not_or, or_false] at hnodup
  simp [hnodup, eq_comm]

/-- A half is its two bytes (R15, R67). -/
theorem lo8_add_hi8 (v : Half) : (lo8 v).toNat + 256 * (hi8 v).toNat = v.toNat := by
  simp only [lo8, hi8, BitVec.toNat_setWidth, BitVec.toNat_ushiftRight, Nat.shiftRight_eq_div_pow]
  omega

/-- The column byte of the last column is the last byte of a row (R69, R192). -/
theorem col_lastColumn {c : Config} (h : c.legal = true) : (col (lastColumn c)).toNat = c.wb - 1 := by
  obtain ⟨hw, h1, h256, -⟩ := Config.legal_geometry h
  simp only [col, lastColumn, BitVec.toNat_setWidth, BitVec.toNat_ushiftRight, BitVec.toNat_ofNat,
    Nat.shiftRight_eq_div_pow]
  omega

/-! ## Frames as the panel takes them (R101, R224) -/

/-- A data byte leaves the data/command-select line as it is. -/
@[simp] theorem Panel.dataByte_dc (c : Config) (p : Panel) (b : Byte) : (p.dataByte c b).dc = p.dc := by
  simp only [Panel.dataByte, Panel.writeRam]
  repeat' split
  all_goals rfl

/-- With data/command-select high, bytes are data (R101). -/
theorem foldl_byte_of_high {p : Panel} (c : Config) (bytes : List Byte) (h : p.dc = .driven .high) :
    bytes.foldl (Panel.byte c) p = bytes.foldl (Panel.dataByte c) p := by
  induction bytes generalizing p with
  | nil => rfl
  | cons b bs ih =>
    have hb : p.byte c b = p.dataByte c b := by simp [Panel.byte, h]
    rw [List.foldl_cons, List.foldl_cons, hb, ih ((p.dataByte_dc c b).trans h)]

/-- A data frame (R224). -/
theorem foldl_dataFrame (c : Config) (bytes : List Byte) (p : Panel) :
    (dataFrame bytes).foldl (Panel.next c) p = bytes.foldl (Panel.dataByte c) { p with dc := .driven .high } :=
  foldl_byte_of_high c bytes rfl

/-- Driving the line to the level it has. -/
theorem Panel.drive_same {p : Panel} {l : Latch} (h : p.dc = l) : { p with dc := l } = p := by
  subst h
  rfl

/-- A payload, whatever `FRAME_PER_BYTE` is (R163). -/
theorem foldl_payloadFrames (c : Config) (b : Byte) (bs : List Byte) (p : Panel) :
    (payloadFrames c (b :: bs)).foldl (Panel.next c) p =
      (b :: bs).foldl (Panel.dataByte c) { p with dc := .driven .high } := by
  unfold payloadFrames
  split
  · induction bs generalizing b p with
    | nil => exact foldl_dataFrame c [b] p
    | cons b' bs ih =>
      rw [List.flatMap_cons, List.foldl_append, foldl_dataFrame, ih]
      exact congrArg (List.foldl (Panel.dataByte c) · (b' :: bs))
        (Panel.drive_same (Panel.dataByte_dc c { p with dc := .driven .high } b))
  · exact foldl_dataFrame c _ p

/-- A command frame (R224). -/
theorem foldl_commandFrame (c : Config) (code : Byte) (p : Panel) :
    (commandFrame code).foldl (Panel.next c) p = Panel.commandByte c { p with dc := .driven .low } code := rfl

/-- A command other than the master activation only selects itself (R224). -/
theorem Panel.commandByte_of_ne {c : Config} {code : Byte} (h : code ≠ c.codes.masterActivation) (p : Panel) :
    p.commandByte c code = { p with command := some code, params := [] } := by
  simp [Panel.commandByte, h]

/-- A command with a payload (R224). -/
theorem foldl_commandEvents {c : Config} {code : Byte} (h : code ≠ c.codes.masterActivation) (b : Byte)
    (bs : List Byte) (p : Panel) :
    (commandEvents c code (b :: bs)).foldl (Panel.next c) p = (b :: bs).foldl (Panel.dataByte c)
      { p with dc := .driven .high, command := some code, params := [] } := by
  rw [commandEvents, List.foldl_append, foldl_commandFrame, Panel.commandByte_of_ne h, foldl_payloadFrames]

/-! ## Window, cursor and activation (R73 to R75) -/

section
variable {c : Config} (hl : c.legal = true)
include hl

/-- `SET_WINDOW` sets the window (R187). -/
theorem foldl_windowEvents (xs ys xe ye : Half) (p : Panel) :
    (windowEvents c xs ys xe ye).foldl (Panel.next c) p =
      { p with
        dc := .driven .high, command := some c.codes.setRamYRange, params := [lo8 ys, hi8 ys, lo8 ye, hi8 ye],
        xs := (col xs).toNat, xe := (col xe).toNat, ys := ys.toNat, ye := ye.toNat } := by
  have hne := panelCodes_ne hl
  simp only [List.pairwise_cons, List.mem_cons, forall_eq_or_imp] at hne
  rw [windowEvents, List.foldl_append, foldl_commandEvents (by simp [hne]), foldl_commandEvents (by simp [hne])]
  simp [Panel.dataByte, hne, lo8_add_hi8]

/-- `SET_CURSOR` sets the counters (R190). -/
theorem foldl_cursorEvents (x y : Half) (p : Panel) :
    (cursorEvents c x y).foldl (Panel.next c) p =
      { p with
        dc := .driven .high, command := some c.codes.setRamYCounter, params := [lo8 y, hi8 y],
        xc := (col x).toNat, yc := y.toNat } := by
  have hne := panelCodes_ne hl
  simp only [List.pairwise_cons, List.mem_cons, forall_eq_or_imp] at hne
  rw [cursorEvents, List.foldl_append, foldl_commandEvents (by simp [hne]), foldl_commandEvents (by simp [hne])]
  simp [Panel.dataByte, hne, lo8_add_hi8]

/-- The activation sequence shows the RAM (R74, R209, R275). -/
theorem foldl_activationEvents (p : Panel) :
    (activationEvents c).foldl (Panel.next c) p =
      { p with
        dc := .driven .low, command := some c.codes.terminateFrame, params := [], shown := some p.pram } := by
  have hne := panelCodes_ne hl
  simp only [List.pairwise_cons, List.mem_cons, forall_eq_or_imp] at hne
  rw [activationEvents, List.foldl_append, List.foldl_append, foldl_commandEvents (by simp [hne]), foldl_commandFrame,
    foldl_commandFrame, Panel.commandByte_of_ne (by simp [hne])]
  simp [Panel.dataByte, Panel.commandByte, hne]

end

/-! ## Rows of RAM data (R75) -/

/-- A RAM byte is stored at the counters (R75). -/
theorem Panel.dataByte_writeRam {c : Config} {p : Panel} (h : p.command = some c.codes.writeRam) (b : Byte) :
    (p.dataByte c b).pram = Memory.write p.pram (pramKey p.xc p.yc) b ∧ (p.dataByte c b).xe = p.xe ∧
      (p.dataByte c b).command = p.command := by
  rw [Panel.dataByte, if_pos h, Panel.writeRam]
  split <;> exact ⟨rfl, rfl, rfl⟩

/-- Before the end of the row a RAM byte moves the X counter by one (R75). -/
theorem Panel.dataByte_counters {c : Config} {p : Panel} (h : p.command = some c.codes.writeRam) (hx : p.xc < p.xe)
    (b : Byte) : (p.dataByte c b).xc = p.xc + 1 ∧ (p.dataByte c b).yc = p.yc := by
  rw [Panel.dataByte, if_pos h, Panel.writeRam, if_neg (by simpa using hx)]
  exact ⟨rfl, rfl⟩

/-- The cells of a RAM row have consecutive keys. -/
theorem pramKey_succ (column row : Nat) : pramKey (column + 1) row = pramKey column row + 1 := Nat.add_right_comm ..

/-- RAM bytes that do not pass the end of the row are stored one after the other (R75). -/
theorem foldl_dataByte_writeRam {c : Config} {bytes : List Byte} {p : Panel} (h : p.command = some c.codes.writeRam)
    (hx : p.xc + bytes.length ≤ p.xe + 1) :
    (bytes.foldl (Panel.dataByte c) p).pram = Memory.writeBytes p.pram (pramKey p.xc p.yc) bytes ∧
      (bytes.foldl (Panel.dataByte c) p).xe = p.xe := by
  induction bytes generalizing p with
  | nil => exact ⟨rfl, rfl⟩
  | cons b bs ih =>
    obtain ⟨hpram, hxe, hcommand⟩ := Panel.dataByte_writeRam h b
    cases bs with
    | nil => exact ⟨hpram, hxe⟩
    | cons b' bs =>
      simp only [List.length_cons] at hx ih
      obtain ⟨hxc, hyc⟩ := Panel.dataByte_counters h (by omega) b
      obtain ⟨hpram', hxe'⟩ := ih (hcommand.trans h) (by omega)
      refine ⟨?_, hxe'.trans hxe⟩
      rw [List.foldl_cons, hpram', hpram, hxc, hyc, pramKey_succ]
      rfl

/-- A row of the full-panel window is stored in its RAM row (R75, R210). -/
theorem foldl_rowEvents {c : Config} (hl : c.legal = true) {j : Nat} {bytes : List Byte} {p : Panel}
    (hj : j < c.height) (hb : bytes.length = c.wb) (hx : p.xe = c.wb - 1) :
    ((rowEvents c j bytes).foldl (Panel.next c) p).pram = Memory.writeBytes p.pram (pramKey 0 j) bytes ∧
      ((rowEvents c j bytes).foldl (Panel.next c) p).xe = c.wb - 1 := by
  obtain ⟨-, h1, -, -, hheight⟩ := Config.legal_geometry hl
  have hyc : (BitVec.ofNat 16 j).toNat = j := by rw [BitVec.toNat_ofNat]; omega
  have hne : c.codes.writeRam ≠ c.codes.masterActivation :=
    (List.pairwise_cons.1 (panelCodes_ne hl)).1 _ List.mem_cons_self
  have hsent : (rowEvents c j bytes).foldl (Panel.next c) p = bytes.foldl (Panel.dataByte c)
      { p with
        dc := .driven .high, command := some c.codes.writeRam, params := [], xc := 0, yc := j } := by
    rw [rowEvents, List.foldl_append, List.foldl_append, List.foldl_append, foldl_cursorEvents hl, foldl_dataFrame,
      foldl_commandFrame, Panel.commandByte_of_ne hne, hyc]
    rfl
  rw [hsent]
  obtain ⟨hpram, hxe⟩ := foldl_dataByte_writeRam (c := c) (bytes := bytes)
    (p := { p with dc := .driven .high, command := some c.codes.writeRam, params := [], xc := 0, yc := j }) rfl
    (by simp only [hb, hx]; omega)
  exact ⟨hpram, hxe.trans hx⟩

/-- The first rows of the full-panel window are in the RAM rows they belong to (R75, R210). -/
theorem foldl_rows_pram {c : Config} (hl : c.legal = true) {w : Nat → List Byte} (hw : ∀ j, (w j).length = c.wb)
    {p : Panel} (hx : p.xe = c.wb - 1) {n : Nat} (hn : n ≤ c.height) :
    let q := ((List.range n).flatMap fun j => rowEvents c j (w j)).foldl (Panel.next c) p
    q.xe = c.wb - 1 ∧
      ∀ column row, column < c.wb → row < n → Memory.read q.pram (pramKey column row) = (w row)[column]? := by
  obtain ⟨-, -, h256, -⟩ := Config.legal_geometry hl
  induction n with
  | zero => exact ⟨hx, fun _ _ _ hrow => absurd hrow (Nat.not_lt_zero _)⟩
  | succ n ih =>
    obtain ⟨hxe, hread⟩ := ih (Nat.le_of_succ_le hn)
    obtain ⟨hpram, hxe'⟩ := foldl_rowEvents hl hn (hw n) hxe
    rw [List.range_succ, List.flatMap_append, List.foldl_append, List.flatMap_singleton]
    refine ⟨hxe', fun column row hcolumn hrow => ?_⟩
    rw [hpram, Memory.read_writeBytes]
    rcases Nat.lt_succ_iff_lt_or_eq.1 hrow with hlt | rfl
    · rw [if_pos (by unfold pramKey; omega)]
      exact hread column row hcolumn hlt
    · have hsub : pramKey column row - pramKey 0 row = column := by unfold pramKey; omega
      rw [if_neg (by unfold pramKey; omega), hsub, List.getElem?_eq_getElem (by rwa [hw])]
      rfl

/-! ## `CLEAR` (R215) -/

/-- Streaming rows of `WB` bytes to the whole panel leaves them in its RAM, and the panel shows it (R74, R75, R210). -/
theorem foldl_streamEvents {c : Config} (hl : c.legal = true) {w : Nat → List Byte} (hw : ∀ j, (w j).length = c.wb)
    (p : Panel) :
    let q := (streamEvents c w).foldl (Panel.next c) p
    q.shown = some q.pram ∧
      ∀ column row, column < c.wb → row < c.height →
        Memory.read q.pram (pramKey column row) = (w row)[column]? := by
  have hx : ((windowEvents c 0 0 (lastColumn c) (lastRow c)).foldl (Panel.next c) p).xe = c.wb - 1 := by
    rw [foldl_windowEvents hl, ← col_lastColumn hl]
  obtain ⟨-, hread⟩ := foldl_rows_pram hl hw hx le_rfl
  rw [streamEvents, List.foldl_append, List.foldl_append, List.foldl_append, foldl_activationEvents hl]
  exact ⟨rfl, hread⟩

/-- Settles O60: what `CLEAR` sends is rows of `WB` copies of `f`, on whatever panel the trace so far has left. -/
theorem clearFillsThePanelRam : Obligations.ClearFillsThePanelRam := by
  unfold Obligations.ClearFillsThePanelRam
  intro s f h ha hb
  obtain ⟨a, t, hexec, hc, ht⟩ := clear_completes f h ha hb
  have hcfg : t.cfg = s.cfg := by simpa using congrArg State.cfg ht
  have htrace : t.trace = s.trace ++ streamEvents s.cfg fun _ => List.replicate s.cfg.wb f := by
    simpa using congrArg State.trace ht
  have hpanel : t.panel = (streamEvents s.cfg fun _ => List.replicate s.cfg.wb f).foldl (Panel.next s.cfg) s.panel := by
    rw [State.panel, htrace, hcfg, List.foldl_append, State.panel]
  obtain ⟨hshown, hread⟩ := foldl_streamEvents h.1 (w := fun _ => List.replicate s.cfg.wb f)
    (fun _ => List.length_replicate) s.panel
  rw [← hpanel] at hshown hread
  refine ⟨a, t, hexec, hc, fun column row hcolumn hrow => ?_, hshown⟩
  rw [hread column row hcolumn hrow, List.getElem?_replicate, if_pos hcolumn]

end Sys2Proof.Machine

/-! PROOFS. The decoder gives back what the encoder laid out, and reads no bit that the format does not name
(spec/30_encoding.md R91 to R102). -/

namespace Sys2Proof.Machine

/-! ## The fields of a request (R91) -/

/-- A request word as its five fields, each at its place. -/
theorem make_eq_fieldAt (op : Byte) (a0 a1 a2 a3 : Half) : Request.make op a0 a1 a2 a3 =
    fieldAt 72 0 op ||| fieldAt 72 8 a0 ||| fieldAt 72 24 a1 ||| fieldAt 72 40 a2 ||| fieldAt 72 56 a3 := by
  simp [Request.make, fieldAt]

@[simp] theorem a0_make (op : Byte) (a0 a1 a2 a3 : Half) : Request.a0 (Request.make op a0 a1 a2 a3) = a0 := by
  simp [Request.a0, make_eq_fieldAt, BitVec.extractLsb'_or, extractLsb'_fieldAt_self, extractLsb'_fieldAt_below,
    extractLsb'_fieldAt_above]

@[simp] theorem a1_make (op : Byte) (a0 a1 a2 a3 : Half) : Request.a1 (Request.make op a0 a1 a2 a3) = a1 := by
  simp [Request.a1, make_eq_fieldAt, BitVec.extractLsb'_or, extractLsb'_fieldAt_self, extractLsb'_fieldAt_below,
    extractLsb'_fieldAt_above]

@[simp] theorem a2_make (op : Byte) (a0 a1 a2 a3 : Half) : Request.a2 (Request.make op a0 a1 a2 a3) = a2 := by
  simp [Request.a2, make_eq_fieldAt, BitVec.extractLsb'_or, extractLsb'_fieldAt_self, extractLsb'_fieldAt_below,
    extractLsb'_fieldAt_above]

@[simp] theorem a3_make (op : Byte) (a0 a1 a2 a3 : Half) : Request.a3 (Request.make op a0 a1 a2 a3) = a3 := by
  simp [Request.a3, make_eq_fieldAt, BitVec.extractLsb'_or, extractLsb'_fieldAt_self, extractLsb'_fieldAt_above]

/-! ## Bytes and halves (R15, R67, R102) -/

/-- The byte an operand field holds in its low half (R93). -/
@[simp] theorem lo8_setWidth (b : Byte) : lo8 (b.setWidth 16) = b := BitVec.setWidth_setWidth_of_le _ (by decide)

/-- The two bytes of a half make it up again (R67). -/
@[simp] theorem ofLeBytes_lo8_hi8 (v : Half) : ofLeBytes (lo8 v) (hi8 v) = v := by
  apply BitVec.eq_of_toNat_eq
  rw [ofLeBytes, BitVec.toNat_append, ← Nat.shiftLeft_add_eq_or_of_lt (lo8 v).isLt, Nat.shiftLeft_eq, ← lo8_add_hi8 v]
  omega

/-! ## Decoding what was encoded -/

/-- No two of the fifteen codes are the same (R11). -/
theorem codes_ne {c : Config} (h : c.legal = true) : c.codes.toList.Pairwise fun k k' => k' ≠ k := by
  have hperm : c.codes.toList.isPerm fifteenCodes = true := by
    simp only [Config.legal, Config.legalCodes, Bool.and_eq_true] at h
    exact h.1.2
  have hnodup : c.codes.toList.Nodup := (List.isPerm_iff.1 hperm).nodup_iff.2 (by decide)
  exact List.Pairwise.imp Ne.symm hnodup

/-- Settles O1: a host request keeps its fields apart, and a panel command is found behind the codes before it, none of
which is its own. -/
theorem decodeOfEncodeIsTheInstruction : Obligations.DecodeOfEncodeIsTheInstruction := by
  unfold Obligations.DecodeOfEncodeIsTheInstruction
  intro c i hl hwf
  have hne := codes_ne hl
  simp only [PanelCodes.toList, List.pairwise_cons, List.mem_cons, forall_eq_or_imp] at hne
  cases i
  case init | sendCommand | sendData | waitIdle | setWindow | setCursor | turnOnDisplay | clear | close | pack =>
    simp [encode, decode, decodeRequest]
  case display w h present => cases present <;> simp [encode, decode, decodeRequest]
  case cmdWriteRam row =>
    have hrow : row.length = c.wb := by simpa [Instr.wf] using hwf
    simp [encode, decode, decodeCommand, hne, ← hrow]
  all_goals simp [encode, decode, decodeCommand, hne]

/-- Settles O2, by reading the words. -/
theorem printedWordsDecode : Obligations.PrintedWordsDecode := by
  unfold Obligations.PrintedWordsDecode
  decide

/-- Settles O3: for each operation the decoder reads the fields its format names and no others. -/
theorem ignoredBitsDoNotMatter : Obligations.IgnoredBitsDoNotMatter := by
  unfold Obligations.IgnoredBitsDoNotMatter
  intro v w hop
  refine ⟨fun hw => ?_, fun hw h0 => ?_, fun hw h0 => ?_, fun hw h0 h1 => ?_, fun hw h0 h1 h2 => ?_⟩
  · simp only [List.mem_cons, List.not_mem_nil, or_false] at hw
    obtain hw | hw | hw | hw := hw <;> simp [decodeRequest, hop, hw]
  · simp only [List.mem_cons, List.not_mem_nil, or_false] at hw
    obtain hw | hw := hw <;> simp [decodeRequest, hop, hw, h0]
  · simp [decodeRequest, hop, hw, h0]
  · simp only [List.mem_cons, List.not_mem_nil, or_false] at hw
    obtain hw | hw := hw <;> simp [decodeRequest, hop, hw, h0, h1]
  · rw [decodeRequest, decodeRequest, hop, hw, h0, h1, h2]
    rfl

/-! ## What a request decodes to -/

/-- What a request decodes to, operation by operation (R92 to R94). -/
inductive Decodes (w : Request) : Except DecodeError Instr → Prop
  | init (h : (Request.op w).toNat = 0x01) : Decodes w (.ok .init)
  | sendCommand (h : (Request.op w).toNat = 0x02) : Decodes w (.ok (.sendCommand (lo8 (Request.a0 w))))
  | sendData (h : (Request.op w).toNat = 0x03) : Decodes w (.ok (.sendData (Request.a0 w)))
  | waitIdle (h : (Request.op w).toNat = 0x04) : Decodes w (.ok .waitIdle)
  | setWindow (h : (Request.op w).toNat = 0x05) :
      Decodes w (.ok (.setWindow (Request.a0 w) (Request.a1 w) (Request.a2 w) (Request.a3 w)))
  | setCursor (h : (Request.op w).toNat = 0x06) : Decodes w (.ok (.setCursor (Request.a0 w) (Request.a1 w)))
  | turnOnDisplay (h : (Request.op w).toNat = 0x07) : Decodes w (.ok .turnOnDisplay)
  | display (h : (Request.op w).toNat = 0x08) :
      Decodes w (.ok (.display (Request.a0 w) (Request.a1 w) ((Request.a2 w).getLsbD 0)))
  | clear (h : (Request.op w).toNat = 0x09) : Decodes w (.ok (.clear (lo8 (Request.a0 w))))
  | close (h : (Request.op w).toNat = 0x0A) : Decodes w (.ok .close)
  | pack (h : (Request.op w).toNat = 0x0B) : Decodes w (.ok (.pack (Request.a0 w) (Request.a1 w)))
  | reserved (h : (Request.op w).toNat = 0x00 ∨ 0x0C ≤ (Request.op w).toNat) :
      Decodes w (.error (.reservedOp (Request.op w)))

/-- Every request decodes so. -/
theorem decodes_decodeRequest (w : Request) : Decodes w (decodeRequest w) := by
  unfold decodeRequest
  split
  · exact .init ‹_›
  · exact .sendCommand ‹_›
  · exact .sendData ‹_›
  · exact .waitIdle ‹_›
  · exact .setWindow ‹_›
  · exact .setCursor ‹_›
  · exact .turnOnDisplay ‹_›
  · exact .display ‹_›
  · exact .clear ‹_›
  · exact .close ‹_›
  · exact .pack ‹_›
  · simp only [imp_false] at *
    exact .reserved (by omega)

/-- A reserved `op` is no instruction (R94). -/
theorem decodeRequest_of_reserved {w : Request} (h : (Request.op w).toNat = 0x00 ∨ 0x0C ≤ (Request.op w).toNat) :
    decodeRequest w = .error (.reservedOp (Request.op w)) := by
  have hd := decodes_decodeRequest w
  generalize decodeRequest w = r at hd
  cases hd with
  | reserved => rfl
  | init hop | sendCommand hop | sendData hop | waitIdle hop | setWindow hop | setCursor hop | turnOnDisplay hop
  | display hop | clear hop | close hop | pack hop => omega

/-! ## Acceptance (R94 to R97) -/

/-- A PDC that is not idle accepts nothing (R95). -/
theorem accept_of_busy {s : State} (hi : s.idle = false) (need : Phase)
    (go : State → Host.Outcome State Fault Refusal) : accept need s go = .refused .notIdle := by
  simp [accept, hi]

/-- Settles O9: acceptance comes first in every instruction. -/
theorem nothingIsExecutedWhileBusy : Obligations.NothingIsExecutedWhileBusy := by
  unfold Obligations.NothingIsExecutedWhileBusy
  intro s i hi
  rw [exec_eq, accept_of_busy hi]

/-- Settles O8: so does the check of the phase. -/
theorem wrongPhaseOnlySetsNotReady : Obligations.WrongPhaseOnlySetsNotReady := by
  unfold Obligations.WrongPhaseOnlySetsNotReady
  intro s i hi hp
  exact (exec_eq i s).trans (accept_notReady hi hp _)

/-- What an idle PDC makes of an instruction: `NOT_READY` in the wrong phase, another flag where the operands turn it
away, and otherwise it is taken (R97). -/
theorem exec_of_idle {s : State} (hi : s.idle = true) (i : Instr) : exec i s = .next
    (if s.phase = phaseNeeded i then (turnedAway s i).elim (s.take i) s.setFlag else s.setFlag .notReady) := by
  rw [exec_eq]
  split
  · rw [accept_of_phase hi ‹_›]
    cases turnedAway s i <;> rfl
  · exact accept_notReady hi ‹_› _

/-- An idle PDC turns away a word that is no instruction (R94). -/
theorem step_present_error {s : State} {w : CodeWord} {rest : List HostMove} {e : DecodeError}
    (hl : s.cfg.legal = true) (hi : s.idle = true) (ho : s.host = .present w :: rest) (hd : decode s.cfg w = .error e) :
    step s = .next (State.setFlag .illegalReq { s with host := rest }) := by
  obtain ⟨hs, hh⟩ := s.idle_iff.1 hi
  simp [step, fetch, hl, hh, hs, ho, hostMove, presented, hd]

/-- Settles O6. -/
theorem reservedRequestOnlySetsIllegalReq : Obligations.ReservedRequestOnlySetsIllegalReq := by
  unfold Obligations.ReservedRequestOnlySetsIllegalReq
  intro s w rest hl hi ho hop
  have hres : (Request.op w).toNat = 0x00 ∨ 0x0C ≤ (Request.op w).toNat := hop.imp_left (congrArg BitVec.toNat)
  exact ⟨_, step_present_error hl hi ho (decodeRequest_of_reserved hres), rfl, hi, (s.idle_iff.1 hi).2, rfl⟩

/-- Settles O7: the operation fixes every test of the chain but those of R97 itself. -/
theorem acceptanceInOrder : Obligations.AcceptanceInOrder := by
  unfold Obligations.AcceptanceInOrder
  intro s w rest hl hi ho
  dsimp only
  have hrun : ∀ i, decodeRequest w = .ok i → step s = .next (if s.phase = phaseNeeded i then
      (turnedAway s i).elim (State.take { s with host := rest } i) (State.setFlag · { s with host := rest })
      else State.setFlag .notReady { s with host := rest }) := fun i hd =>
    (step_present hl hi ho hd).trans (exec_of_idle (s := { s with host := rest }) hi i)
  have hd := decodes_decodeRequest w
  generalize hr : decodeRequest w = r at hrun hd
  cases hd with
  | reserved h => rw [step_present_error hl hi ho hr, if_pos h]
  | init h | sendCommand h | waitIdle h | setWindow h | setCursor h | turnOnDisplay h | clear h | close h | pack h =>
    rw [hrun _ rfl]
    simp [h, phaseNeeded, turnedAway, State.take, accepted, expansion, opsSendCommand, opsWaitIdle, opsClose, opsPack]
  | sendData h =>
    rw [hrun _ rfl]
    by_cases hn : Request.a0 w = 0#16 ∨ s.cfg.paySize < (Request.a0 w).toNat <;>
      simp [h, hn, phaseNeeded, turnedAway, State.take, accepted, expansion, opsSendData, frame]
  | display h =>
    rw [hrun _ rfl]
    cases hp : (Request.a2 w)[0] <;> simp [h, hp, phaseNeeded, turnedAway, State.take, accepted, expansion]

/-! ## What acceptance leaves alone -/

/-- A flag is not in a memory. -/
@[simp] theorem State.setFlag_mem (f : Flag) (s : State) (sp : Space) : (s.setFlag f).mem sp = s.mem sp := by
  cases sp <;> rfl

/-- Acceptance writes no memory (R61 to R64). -/
@[simp] theorem State.take_mem (s : State) (i : Instr) (sp : Space) : (s.take i).mem sp = s.mem sp := by
  cases sp <;> rfl

/-- Only `CLEAR` writes `FILL` (R215). -/
theorem clear_of_accepted_fill {s : State} {i : Instr} (h : (accepted s i).fill ≠ s.fill) : ∃ f, i = .clear f := by
  cases i
  case clear f => exact ⟨f, rfl⟩
  all_goals exact absurd rfl h

/-- Only `DISPLAY` with an image and `PACK` write `IMGW` and `IMGH` (R170, R213). -/
theorem display_or_pack_of_accepted_size {s : State} {i : Instr} (hturn : turnedAway s i = none)
    (hsize : (accepted s i).imgw ≠ s.imgw ∨ (accepted s i).imgh ≠ s.imgh) :
    ∃ w h, i = .display w h true ∨ i = .pack w h := by
  cases i
  case display w h present =>
    cases present
    · cases hturn
    · exact ⟨w, h, .inl rfl⟩
  case pack w h => exact ⟨w, h, .inr rfl⟩
  all_goals exact hsize.elim (absurd rfl) (absurd rfl)

/-- Only `SEND_DATA` writes `PLEN` (R166). -/
theorem sendData_of_accepted_plen {s : State} {i : Instr} (h : (accepted s i).plen ≠ s.plen) :
    ∃ n, i = .sendData n := by
  cases i
  case sendData n => exact ⟨n, rfl⟩
  all_goals exact absurd rfl h

/-- Settles O14: executing an instruction sets a flag, or takes it with its own operand registers (R97 step 5). -/
theorem acceptanceFrame : Obligations.AcceptanceFrame := by
  unfold Obligations.AcceptanceFrame
  intro s t i h
  obtain ⟨-, ⟨f, hf, rfl⟩ | ⟨-, hturn, rfl⟩⟩ := exec_cases h
  · simp [hf]
  · exact ⟨rfl, rfl, rfl, rfl, rfl, rfl, rfl, rfl, rfl, rfl, rfl, rfl, rfl, rfl, rfl,
      fun sp a => by rw [State.take_mem], clear_of_accepted_fill, display_or_pack_of_accepted_size hturn,
      sendData_of_accepted_plen, rfl, rfl, rfl, rfl, rfl, rfl⟩

/-- Settles O22: only a micro-operation touches the trace, and it emits at most one event (R110). -/
theorem atMostOneEventPerStep : Obligations.AtMostOneEventPerStep := by
  unfold Obligations.AtMostOneEventPerStep
  intro s t h
  cases (step_stepTo h).2 with
  | performed hs hp => exact (perform_performed hp).trace
  | waited => exact .inl rfl
  | flagged => exact .inl rfl
  | taken => exact .inl rfl
  | wrotePay => exact .inl rfl
  | wroteImg => exact .inl rfl

end Sys2Proof.Machine

/-! PROOFS. A composite operation and its primitives as separate requests send the same events
(spec/30_encoding.md R113). -/

namespace Sys2Proof.Machine

/-! ## A PDC that serves requests in a quiet environment -/

/-- The PDC is idle in phase `Ready`, the transport never aborts and the busy line is always idle. -/
structure State.Serves (s : State) : Prop where
  idleIn : s.IdleIn .ready
  aborts : s.NeverAborts
  busy   : s.AlwaysIdle

theorem State.Serves.withHost {s : State} (h : s.Serves) (moves : List HostMove) :
    State.Serves { s with host := moves } := ⟨h.idleIn, h.aborts, h.busy⟩

/-- Performing a micro-operation leaves a quiet environment quiet. -/
theorem perform_keeps_quiet {m : MicroOp} {s t : State} (h : perform m s = .next t)
    (hs : s.NeverAborts ∧ s.AlwaysIdle) : t.NeverAborts ∧ t.AlwaysIdle := by
  obtain ⟨ha, hb⟩ := hs
  have write : ∀ bytes, (performWrite bytes s).NeverAborts ∧ (performWrite bytes s).AlwaysIdle := fun bytes => by
    rw [performWrite_of_neverAborts ha]
    exact ⟨ha.later, hb⟩
  cases m
  case uOpen => cases h; rcases performOpen_cases s with ⟨-, h⟩ | ⟨-, h⟩ <;> rw [h] <;> exact ⟨ha, hb⟩
  case uWrImm => cases h; exact write _
  case uWrFill => cases h; exact write _
  case uWrRow => obtain ⟨-, rfl⟩ := performWriteFrom_next h; exact write _
  case uWrPay => obtain ⟨-, rfl⟩ := performWriteFrom_next h; exact write _
  case uPack => cases h; rw [packImage_eq]; exact ⟨ha, hb⟩
  case uPoll => cases h; rw [performPoll_of_alwaysIdle hb]; exact ⟨ha, hb.later⟩
  all_goals cases h; exact ⟨ha, hb⟩

/-- So does every step. -/
theorem step_keeps_quiet (s t : State) (hs : s.NeverAborts ∧ s.AlwaysIdle) (h : step s = .next t) :
    t.NeverAborts ∧ t.AlwaysIdle := by
  cases (step_stepTo h).2 with
  | performed _ hp => exact perform_keeps_quiet hp hs
  | waited => exact hs
  | flagged => exact hs
  | taken => exact hs
  | wrotePay => exact hs
  | wroteImg => exact hs

/-- `IMG` is the host's, and the phase goes with `uPHASE`. -/
theorem foldl_quietly_phase_img (ops : List MicroOp) (s : State) :
    (ops.foldl State.quietly s).phase = ops.foldl phaseAfter s.phase ∧ (ops.foldl State.quietly s).img = s.img ∧
      (ops.foldl State.quietly s).cfg = s.cfg := by
  induction ops generalizing s with
  | nil => exact ⟨rfl, rfl, rfl⟩
  | cons m ops ih =>
    have hm : (s.quietly m).phase = phaseAfter s.phase m ∧ (s.quietly m).img = s.img := by
      cases m
      case uPack => simp [State.quietly, packImage_eq, phaseAfter]
      all_goals exact ⟨rfl, rfl⟩
    simpa [hm] using ih (s.quietly m)

/-- From `s` the PDC has come to serve again, in `t`, with the moves `rest` still to come. -/
structure Served (s : State) (rest : List HostMove) (t : State) : Prop where
  steps  : ∃ n, Steps n s t
  serves : t.Serves
  host   : t.host = rest
  cfg    : t.cfg = s.cfg
  img    : t.img = s.img

theorem Served.trans {s t u : State} {rest rest' : List HostMove} (h : Served s rest t) (k : Served t rest' u) :
    Served s rest' u := by
  obtain ⟨m, hm⟩ := h.steps
  obtain ⟨n, hn⟩ := k.steps
  exact ⟨⟨m + n, hm.trans hn⟩, k.serves, k.host, k.cfg.trans h.cfg, k.img.trans h.img⟩

/-- The state with operation `i` taken and its micro-operations yet to be performed removed from `SEQ`, the answers
apart. -/
def State.begun (s : State) (i : Instr) (rest : List HostMove) : State :=
  State.apartFromAnswers { s.take i with seq := [], host := rest }

/-- The state with operation `i` taken and performed in a quiet environment, the answers apart. -/
def State.ran (s : State) (i : Instr) (rest : List HostMove) : State :=
  (expansion s.cfg i).foldl State.quietly (s.begun i rest)

/-- A PDC that serves runs the operation it is presented, and serves again. -/
theorem State.Serves.present {s : State} {i : Instr} {rest : List HostMove} (h : s.Serves)
    (ho : s.host = .present (encode s.cfg i) :: rest) (hinit : i ≠ .init) (hclose : i ≠ .close)
    (hwf : i.wf s.cfg = true) (hturn : turnedAway s i = none) (hsmooth : Smooth s.cfg (expansion s.cfg i)) :
    ∃ t, Served s rest t ∧ t.trace = (s.ran i rest).trace ∧ t.buf = (s.ran i rest).buf := by
  obtain ⟨⟨hl, hi, hp⟩, ha, hb⟩ := h
  obtain ⟨hseq, hhalt⟩ := s.idle_iff.1 hi
  have hneed : s.phase = phaseNeeded i := by rw [hp, phaseNeeded, if_neg hinit]
  have htaken : step s = .next (State.take { s with host := rest } i) :=
    (step_present hl hi ho (decodeOfEncodeIsTheInstruction s.cfg i hl hwf)).trans
      (exec_of_phase (s := { s with host := rest }) hi hneed hturn)
  have hcalm : (State.take { s with host := rest } i).Calm (State.take { s with host := rest } i).seq :=
    { legal := hl, running := hhalt, smooth := hsmooth, writes := fun _ _ _ => ha, polls := fun _ => hb }
  obtain ⟨t, ⟨⟨n, hn⟩, hidle, hhost⟩, ht⟩ := completes_quietly hcalm
  obtain ⟨hphase, himg, hcfg⟩ := foldl_quietly_phase_img (expansion s.cfg i) (s.begun i rest)
  have hran : t.apartFromAnswers = s.ran i rest := ht
  rw [← State.ran, ← hran] at hphase himg hcfg
  rw [foldl_phaseAfter_of_notMem fun p => uPhase_notMem_expansion p s.cfg hinit hclose] at hphase
  have hrun : Steps (1 + n) s t := (steps_one.2 htaken).trans hn
  obtain ⟨ta, tb⟩ := hrun.keeps step_keeps_quiet ⟨ha, hb⟩
  have hl' : t.cfg.legal = true := (congrArg Config.legal hcfg).trans hl
  exact ⟨t, ⟨⟨_, hrun⟩, ⟨⟨hl', hidle, hphase.trans hp⟩, ta, tb⟩, hhost, hcfg, himg⟩,
    by rw [← hran, State.apartFromAnswers_trace], by rw [← hran, State.apartFromAnswers_buf]⟩

/-! ## Requests that send events -/

/-- Presented by the host, these moves send these events and leave `BUF` alone. -/
def Sends (c : Config) (moves : List HostMove) (es : List Event) : Prop :=
  ∀ (s : State) (rest : List HostMove), s.Serves → s.cfg = c → s.host = moves ++ rest →
    ∃ t, Served s rest t ∧ t.trace = s.trace ++ es ∧ t.buf = s.buf

theorem Sends.append {c : Config} {moves moves' : List HostMove} {es es' : List Event} (h : Sends c moves es)
    (h' : Sends c moves' es') : Sends c (moves ++ moves') (es ++ es') := by
  intro s rest hs hc ho
  obtain ⟨t, ht, htrace, hbuf⟩ := h s (moves' ++ rest) hs hc (by rw [ho, List.append_assoc])
  obtain ⟨u, hu, htrace', hbuf'⟩ := h' t rest ht.serves (ht.cfg.trans hc) ht.host
  exact ⟨u, ht.trans hu, by rw [htrace', htrace, List.append_assoc], hbuf'.trans hbuf⟩

theorem Sends.flatMap {c : Config} {f : Nat → List HostMove} {g : Nat → List Event} (h : ∀ j, Sends c (f j) (g j))
    (l : List Nat) : Sends c (l.flatMap f) (l.flatMap g) := by
  induction l with
  | nil => exact fun s rest hs _ ho => ⟨s, ⟨⟨0, rfl⟩, hs, ho, rfl, rfl⟩, by simp, rfl⟩
  | cons j l ih => exact (h j).append ih

/-- An operation that is accepted, whose micro-operations send these events and leave `BUF` alone. -/
theorem sends_present {c : Config} {i : Instr} {es : List Event} (hinit : i ≠ .init) (hclose : i ≠ .close)
    (hwf : i.wf c = true) (hturn : ∀ s, s.cfg = c → turnedAway s i = none) (hsmooth : Smooth c (expansion c i))
    (hfold : ∀ s, ((expansion c i).foldl State.quietly s).trace = s.trace ++ es ∧
      ((expansion c i).foldl State.quietly s).buf = s.buf) :
    Sends c [.present (encode c i)] es := by
  rintro s rest hs rfl ho
  obtain ⟨t, ht, htrace, hbuf⟩ := hs.present (rest := rest) ho hinit hclose hwf (hturn s rfl) hsmooth
  obtain ⟨htrace', hbuf'⟩ := hfold (s.begun i rest)
  exact ⟨t, ht, htrace.trans htrace', hbuf.trans hbuf'⟩

/-! ## The primitives -/

/-- `SEND_COMMAND` (R164). -/
theorem sends_sendCommand (c : Config) (code : Byte) :
    Sends c [.present (encode c (.sendCommand code))] (commandFrame code) :=
  sends_present (by simp) (by simp) rfl (fun _ _ => rfl) (smooth_frame_uWrImm c .low [code]) fun s => by
    rw [expansion, opsSendCommand, foldl_frameC]
    exact ⟨rfl, rfl⟩

/-- `WAIT_IDLE` (R202). -/
theorem sends_waitIdle (c : Config) : Sends c [.present (encode c .waitIdle)] [.busy .low] :=
  sends_present (by simp) (by simp) rfl (fun _ _ => rfl) (by simp [expansion, opsWaitIdle, MicroOp.inRange])
    fun _ => ⟨rfl, rfl⟩

/-- The legal sizes of `PAY` (R12). -/
theorem Config.legal_paySize {c : Config} (h : c.legal = true) : 1 ≤ c.paySize ∧ c.paySize ≤ 65535 := by
  simp only [Config.legal, Config.legalSwitches, Bool.and_eq_true, decide_eq_true_eq] at h
  exact ⟨h.2.1.2, h.2.2⟩

/-- What the host has written to `PAY` is what a read of it yields (R63, R112). -/
theorem bytesAt_writeBytes_pay (s : State) (bytes : List Byte) :
    State.bytesAt { s with pay := Memory.writeBytes s.pay 0 bytes } .pay 0 bytes.length = bytes := by
  refine List.ext_getElem (by simp) fun k _ hk => ?_
  simp [State.bytesAt, State.byteAt, State.mem, Memory.read_writeBytes_zero, hk]

/-- The micro-operations of `SEND_DATA` (R166). -/
theorem foldl_opsSendData (n : Nat) (s : State) :
    (opsSendData n).foldl State.quietly s = s.sent .high (dataFrame (s.bytesAt .pay 0 n)) := by
  have hw : ((s.quietly (.uDc .high)).quietly (.uCs .low)).quietly (.uWrPay n) =
      ((s.quietly (.uDc .high)).quietly (.uCs .low)).emit (.wr (s.bytesAt .pay 0 n)) := rfl
  simp only [opsSendData, frame, List.foldl_cons, List.foldl_nil, hw]
  simp [State.quietly, State.sent, State.emit, dataFrame]

/-- `SEND_DATA`, its payload in `PAY` (R113, R166). -/
theorem sends_payload {c : Config} {bytes : List Byte} (h1 : 1 ≤ bytes.length) (hsize : bytes.length ≤ c.paySize) :
    Sends c [.writePay bytes, .present (encode c (.sendData (BitVec.ofNat 16 bytes.length)))] (dataFrame bytes) := by
  rintro s rest hs rfl ho
  obtain ⟨hl, hi, hp⟩ := hs.idleIn
  have hlen : (BitVec.ofNat 16 bytes.length).toNat = bytes.length := by
    have hpay := Config.legal_paySize hl
    rw [BitVec.toNat_ofNat]
    omega
  have hturn : turnedAway s (.sendData (BitVec.ofNat 16 bytes.length)) = none := by
    have hne : BitVec.ofNat 16 bytes.length ≠ 0 := fun h0 =>
      Nat.ne_of_gt h1 (hlen.symm.trans (congrArg BitVec.toNat h0))
    simp only [turnedAway, hlen]
    exact if_neg (not_or.2 ⟨hne, Nat.not_lt.2 hsize⟩)
  let w : State := { s with
    host := .present (encode s.cfg (.sendData (BitVec.ofNat 16 bytes.length))) :: rest
    pay := Memory.writeBytes s.pay 0 bytes }
  have hw : Served s w.host w :=
    ⟨⟨1, steps_one.2 (step_writePay hl hi ho hsize)⟩, ⟨⟨hl, hi, hp⟩, hs.aborts, hs.busy⟩, rfl, rfl, rfl⟩
  obtain ⟨t, ht, htrace, hbuf⟩ := hw.serves.present rfl (by simp) (by simp) rfl hturn
    (by simpa [expansion, opsSendData, frame, MicroOp.inRange, hlen] using hsize)
  have hread : (w.begun (.sendData (BitVec.ofNat 16 bytes.length)) rest).bytesAt .pay 0 bytes.length = bytes :=
    bytesAt_writeBytes_pay s bytes
  rw [State.ran, expansion, hlen, foldl_opsSendData] at htrace hbuf
  rw [hread] at htrace
  exact ⟨t, hw.trans ht, htrace, hbuf⟩

/-- A command and its payload as separate requests (R113). -/
theorem sends_sendMoves {c : Config} {bytes : List Byte} (code : Byte) (h1 : 1 ≤ bytes.length)
    (hsize : bytes.length ≤ c.paySize) :
    Sends c (sendMoves c code bytes) (commandFrame code ++ dataFrame bytes) :=
  (sends_sendCommand c code).append (sends_payload h1 hsize)

/-! ## The composites as separate requests (R113) -/

section
variable {c : Config} (hf : c.framePerByte = false) (h4 : 4 ≤ c.paySize)
include hf h4

/-- A command and a payload of at most four bytes: without `FRAME_PER_BYTE` that is one data frame (R163). -/
theorem sends_command (code b : Byte) (bs : List Byte) (hlen : (b :: bs).length ≤ 4) :
    Sends c (sendMoves c code (b :: bs)) (commandEvents c code (b :: bs)) := by
  rw [commandEvents, payloadFrames, hf, if_neg Bool.false_ne_true]
  exact sends_sendMoves code (Nat.succ_pos _) (hlen.trans h4)

/-- `SET_WINDOW` (R187). -/
theorem sends_windowMoves (xs ys xe ye : Half) : Sends c (windowMoves c xs ys xe ye) (windowEvents c xs ys xe ye) :=
  (sends_command hf h4 _ _ _ (by simp)).append (sends_command hf h4 _ _ _ (by simp))

/-- `SET_CURSOR` (R190). -/
theorem sends_cursorMoves (x y : Half) : Sends c (cursorMoves c x y) (cursorEvents c x y ++ [.busy .low]) :=
  ((sends_command hf h4 _ _ _ (by simp)).append (sends_command hf h4 _ _ _ (by simp))).append (sends_waitIdle c)

/-- `TURN_ON_DISPLAY` (R209). -/
theorem sends_activationMoves : Sends c (activationMoves c) (activationEvents c ++ [.busy .low]) := by
  rw [activationEvents, List.append_assoc, List.append_assoc]
  exact (sends_command hf h4 _ _ _ (by simp)).append
    ((sends_sendCommand c _).append ((sends_sendCommand c _).append (sends_waitIdle c)))

/-- The rows of `CLEAR` and `DISPLAY` (R210). -/
theorem sends_rowMoves (hl : c.legal = true) (hwb : c.wb ≤ c.paySize) {w : Nat → List Byte}
    (hw : ∀ j, (w j).length = c.wb) :
    Sends c (rowMoves c w) ((List.range c.height).flatMap fun j => rowEvents c j (w j)) := by
  obtain ⟨-, h1, -⟩ := Config.legal_geometry hl
  refine Sends.flatMap (fun j => ?_) _
  rw [rowEvents, List.append_assoc]
  exact (sends_cursorMoves hf h4 0 _).append (sends_sendMoves _ (by rw [hw]; exact h1) (by rw [hw]; exact hwb))

end

/-! ## The composites themselves -/

@[simp] theorem smooth_opsSetWindow (c d : Config) (xs ys xe ye : Half) : Smooth d (opsSetWindow c xs ys xe ye) := by
  simp [opsSetWindow, opsSetRamXRange, opsSetRamYRange, MicroOp.inRange]

@[simp] theorem smooth_opsSetCursor (c d : Config) (x y : Half) : Smooth d (opsSetCursor c x y) := by
  simp [opsSetCursor, opsSetRamXCounter, opsSetRamYCounter, MicroOp.inRange]

@[simp] theorem smooth_opsTurnOnDisplay (c d : Config) : Smooth d (opsTurnOnDisplay c) := by
  simp [opsTurnOnDisplay, opsDisplayUpdate2, opsMasterActivation, opsTerminateFrame, MicroOp.inRange]

/-- The rows that `DISPLAY` reads are rows of `BUF` (R156, R213). -/
theorem smooth_opsDisplay (c : Config) : Smooth c (opsDisplay c) := by
  simp +contextual [opsDisplay, opsFullWindow, opsRows, opsRow, opsWriteRam, frameC, frame, MicroOp.inRange]

/-- `SET_WINDOW` (R187). -/
theorem sends_setWindow (c : Config) (xs ys xe ye : Half) :
    Sends c [.present (encode c (.setWindow xs ys xe ye))] (windowEvents c xs ys xe ye) :=
  sends_present (by simp) (by simp) rfl (fun _ _ => rfl) (smooth_opsSetWindow c c xs ys xe ye) fun s => by
    rw [expansion, foldl_opsSetWindow]
    exact ⟨rfl, rfl⟩

/-- `SET_CURSOR` (R190). -/
theorem sends_setCursor (c : Config) (x y : Half) :
    Sends c [.present (encode c (.setCursor x y))] (cursorEvents c x y ++ [.busy .low]) :=
  sends_present (by simp) (by simp) rfl (fun _ _ => rfl) (smooth_opsSetCursor c c x y) fun s => by
    rw [expansion, foldl_opsSetCursor]
    exact ⟨rfl, rfl⟩

/-- `TURN_ON_DISPLAY` (R209). -/
theorem sends_turnOnDisplay (c : Config) :
    Sends c [.present (encode c .turnOnDisplay)] (activationEvents c ++ [.busy .low]) :=
  sends_present (by simp) (by simp) rfl (fun _ _ => rfl) (smooth_opsTurnOnDisplay c c) fun s => by
    rw [expansion, foldl_opsTurnOnDisplay]
    exact ⟨rfl, rfl⟩

/-- A read of `BUF` reads `BUF` only. -/
theorem bytesAt_buf_congr {s t : State} (h : s.buf = t.buf) (a n : Nat) : s.bytesAt .buf a n = t.bytesAt .buf a n := by
  simp [State.bytesAt, State.byteAt, State.mem, h]

/-- A row of `BUF` (R156). -/
theorem writes_uWrRow (s : State) (j : Nat) :
    s.Writes (.uWrRow j) (s.bytesAt .buf (j * s.cfg.wb) s.cfg.wb) := fun t hc hb _ => by
  rw [State.quietly, hc, bytesAt_buf_congr hb]

@[simp] theorem State.packImage_cfg (s : State) : s.packImage.cfg = s.cfg := by rw [packImage_eq]

@[simp] theorem State.packImage_trace (s : State) : s.packImage.trace = s.trace := by rw [packImage_eq]

/-- What `uPACK` leaves in `BUF` depends on the geometry and the image only (R173). -/
theorem packImage_buf_congr {s t : State} (hcfg : s.cfg = t.cfg) (himg : s.img = t.img) (himgw : s.imgw = t.imgw)
    (himgh : s.imgh = t.imgh) : s.packImage.buf = t.packImage.buf := by
  cases s
  cases t
  simp only at hcfg himg himgw himgh
  subst hcfg himg himgw himgh
  simp only [packImage_eq]
  rfl

/-- The micro-operations of `DISPLAY`, one after the other (R213). -/
theorem foldl_opsDisplay {s : State} (hl : s.cfg.legal = true) :
    (opsDisplay s.cfg).foldl State.quietly s =
      State.sent .low (streamEvents s.cfg fun j => s.packImage.bytesAt .buf (j * s.cfg.wb) s.cfg.wb)
        { s.packImage with
          xs := .value 0, ys := .value 0, xe := .value (lastColumn s.cfg), ye := .value (lastRow s.cfg), cx := .value 0,
          cy := .value (lastRow s.cfg), polls := 0 } := by
  obtain ⟨-, -, -, hh, -⟩ := Config.legal_geometry hl
  obtain ⟨n, hn⟩ := Nat.exists_eq_add_of_le' hh
  have hpack : (State.sent .high (windowEvents s.cfg 0 0 (lastColumn s.cfg) (lastRow s.cfg)) { s with
      xs := .value 0, ys := .value 0, xe := .value (lastColumn s.cfg), ye := .value (lastRow s.cfg) }).quietly .uPack =
      State.sent .high (windowEvents s.cfg 0 0 (lastColumn s.cfg) (lastRow s.cfg)) { s.packImage with
        xs := .value 0, ys := .value 0, xe := .value (lastColumn s.cfg), ye := .value (lastRow s.cfg) } := by
    simp only [State.quietly, packImage_eq]
    rfl
  have hw (j : Nat) : State.Writes (State.sent .high (windowEvents s.cfg 0 0 (lastColumn s.cfg) (lastRow s.cfg))
      { s.packImage with
        xs := .value 0, ys := .value 0, xe := .value (lastColumn s.cfg), ye := .value (lastRow s.cfg) })
      (.uWrRow j) (s.packImage.bytesAt .buf (j * s.cfg.wb) s.cfg.wb) := s.packImage_cfg ▸ writes_uWrRow s.packImage j
  rw [opsDisplay, opsRows, opsFullWindow, List.foldl_append, List.foldl_append, List.foldl_append, foldl_opsSetWindow,
    List.foldl_cons, List.foldl_nil, hpack, hn, foldl_rows s.cfg hw n, foldl_opsTurnOnDisplay]
  simp [State.sent, streamEvents, lastRow, hn]

/-! ## Runs of both -/

/-- With these moves of the host `s` comes to be idle again, with this trace and this `BUF`. -/
def Reaches (s : State) (moves : List HostMove) (trace : List Event) (buf : Memory) : Prop :=
  ∃ n t, Steps n { s with host := moves } t ∧ t.idle = true ∧ t.host = [] ∧ t.trace = trace ∧ t.buf = buf

theorem Served.reaches {s t : State} {moves : List HostMove} {trace : List Event} {buf : Memory}
    (h : Served { s with host := moves } [] t) (htrace : t.trace = trace) (hbuf : t.buf = buf) :
    Reaches s moves trace buf := by
  obtain ⟨n, hn⟩ := h.steps
  exact ⟨n, t, hn, h.serves.idleIn.2.1, h.host, htrace, hbuf⟩

section
variable {s : State} (hs : s.Serves)
include hs

theorem Sends.reaches {moves : List HostMove} {es : List Event} (h : Sends s.cfg moves es) :
    Reaches s moves (s.trace ++ es) s.buf := by
  obtain ⟨t, ht, htrace, hbuf⟩ := h { s with host := moves } [] (hs.withHost moves) rfl
    (List.append_nil _).symm
  exact ht.reaches htrace hbuf

/-- `CLEAR` (R215). -/
theorem clear_reaches (f : Byte) : Reaches s [.present (encode s.cfg (.clear f))]
    (s.trace ++ streamEvents s.cfg fun _ => List.replicate s.cfg.wb f) s.buf := by
  obtain ⟨t, ht, htrace, hbuf⟩ := State.Serves.present (s := { s with host := [.present (encode s.cfg (.clear f))] })
    (rest := []) (hs.withHost _) rfl (by simp) (by simp) rfl rfl (smooth_opsClear s.cfg)
  rw [State.ran, expansion, foldl_opsClear hs.idleIn.1] at htrace hbuf
  exact ht.reaches htrace hbuf

/-- `DISPLAY` with an image (R213). -/
theorem display_reaches (w h : Half) :
    let p := State.packImage { s with imgw := .value w, imgh := .value h }
    Reaches s [.present (encode s.cfg (.display w h true))]
      (s.trace ++ streamEvents s.cfg fun j => p.bytesAt .buf (j * s.cfg.wb) s.cfg.wb) p.buf := by
  intro p
  let start : State := { s with host := [.present (encode s.cfg (.display w h true))] }
  obtain ⟨t, ht, htrace, hbuf⟩ := State.Serves.present (s := start) (rest := []) (hs.withHost _) rfl
    (by simp) (by simp) rfl rfl (smooth_opsDisplay s.cfg)
  have hpacked : (start.begun (.display w h true) []).packImage.buf = p.buf := packImage_buf_congr rfl rfl rfl rfl
  have hran := foldl_opsDisplay (s := start.begun (.display w h true) []) hs.idleIn.1
  simp only [bytesAt_buf_congr hpacked] at hran
  rw [State.ran, expansion] at htrace hbuf
  refine ht.reaches (htrace.trans ((congrArg State.trace hran).trans ?_))
    (hbuf.trans ((congrArg (fun u : State => u.buf) hran).trans hpacked))
  exact congrArg (· ++ _) (State.packImage_trace _)

/-- The separate requests of `DISPLAY` with an image (R113): the window, the packing, the rows of what it leaves in
`BUF`, the activation. -/
theorem displayMoves_reaches (hf : s.cfg.framePerByte = false) (h4 : 4 ≤ s.cfg.paySize)
    (hwb : s.cfg.wb ≤ s.cfg.paySize) (w h : Half) :
    let p := State.packImage { s with imgw := .value w, imgh := .value h }
    Reaches s (windowMoves s.cfg 0 0 (lastColumn s.cfg) (lastRow s.cfg) ++ [.present (encode s.cfg (.pack w h))] ++
        rowMoves s.cfg (fun j => p.bytesAt .buf (j * s.cfg.wb) s.cfg.wb) ++ activationMoves s.cfg)
      (s.trace ++ streamEvents s.cfg fun j => p.bytesAt .buf (j * s.cfg.wb) s.cfg.wb) p.buf := by
  intro p
  simp only [List.append_assoc, List.singleton_append]
  let window : List HostMove := windowMoves s.cfg 0 0 (lastColumn s.cfg) (lastRow s.cfg)
  let later : List HostMove :=
    rowMoves s.cfg (fun j => p.bytesAt .buf (j * s.cfg.wb) s.cfg.wb) ++ activationMoves s.cfg
  obtain ⟨t, ht, htrace, -⟩ := sends_windowMoves hf h4 0 0 (lastColumn s.cfg) (lastRow s.cfg) _ _
    (hs.withHost (window ++ .present (encode s.cfg (.pack w h)) :: later)) rfl rfl
  obtain ⟨u, hu, hutrace, hubuf⟩ := ht.serves.present (i := .pack w h) (rest := later) (by rw [ht.host, ht.cfg])
    (by simp) (by simp) rfl rfl (by simp [expansion, opsPack, MicroOp.inRange])
  have hpacked : u.buf = p.buf := hubuf.trans (packImage_buf_congr ht.cfg ht.img rfl rfl)
  have htu : u.trace = t.trace := hutrace.trans (State.packImage_trace _)
  obtain ⟨v, hv, hvtrace, hvbuf⟩ := (sends_rowMoves hf h4 hs.idleIn.1 hwb (fun j => p.length_bytesAt .buf _ _)).append
    (sends_activationMoves hf h4) u [] hu.serves (hu.cfg.trans ht.cfg) (hu.host.trans (List.append_nil _).symm)
  exact ((ht.trans hu).trans hv).reaches (by simp [hvtrace, htu, htrace, streamEvents]) (hvbuf.trans hpacked)

end

/-- The separate requests of `CLEAR` (R113). -/
theorem sends_clearMoves {c : Config} (hl : c.legal = true) (hf : c.framePerByte = false) (h4 : 4 ≤ c.paySize)
    (hwb : c.wb ≤ c.paySize) (f : Byte) :
    Sends c (windowMoves c 0 0 (lastColumn c) (lastRow c) ++ rowMoves c (fun _ => List.replicate c.wb f) ++
      activationMoves c) (streamEvents c fun _ => List.replicate c.wb f) := by
  rw [streamEvents, List.append_assoc _ (activationEvents c)]
  exact ((sends_windowMoves hf h4 _ _ _ _).append (sends_rowMoves hf h4 hl hwb fun _ => List.length_replicate)).append
    (sends_activationMoves hf h4)

/-- Settles O48: the composite and its separate requests both send the events of the composite. -/
theorem compositesAreTheirPrimitives : Obligations.CompositesAreTheirPrimitives := by
  unfold Obligations.CompositesAreTheirPrimitives
  intro s i moves hidle hf h4 hwb ha hb hmoves
  have hs : s.Serves := ⟨hidle, ha, hb⟩
  suffices ∃ trace buf, Reaches s [.present (encode s.cfg i)] trace buf ∧ Reaches s moves trace buf by
    obtain ⟨trace, buf, ⟨m, t, hm, htidle, hthost, httrace, htbuf⟩, ⟨n, u, hn, huidle, huhost, hutrace, hubuf⟩⟩ := this
    exact ⟨m, n, t, u, hm, htidle, hthost, hn, huidle, huhost, httrace.trans hutrace.symm, htbuf.trans hubuf.symm⟩
  cases i
  case setWindow xs ys xe ye =>
    cases hmoves
    exact ⟨_, _, (sends_setWindow _ xs ys xe ye).reaches hs, (sends_windowMoves hf h4 xs ys xe ye).reaches hs⟩
  case setCursor x y =>
    cases hmoves
    exact ⟨_, _, (sends_setCursor _ x y).reaches hs, (sends_cursorMoves hf h4 x y).reaches hs⟩
  case turnOnDisplay =>
    cases hmoves
    exact ⟨_, _, (sends_turnOnDisplay _).reaches hs, (sends_activationMoves hf h4).reaches hs⟩
  case clear f =>
    cases hmoves
    exact ⟨_, _, clear_reaches hs f, (sends_clearMoves hidle.1 hf h4 hwb f).reaches hs⟩
  case display w h present =>
    cases present
    · cases hmoves
    · cases hmoves
      exact ⟨_, _, display_reaches hs w h, displayMoves_reaches hs hf h4 hwb w h⟩
  all_goals cases hmoves

end Sys2Proof.Machine

/-! PROOFS. `INIT`, `CLOSE` and the panel commands (spec/40_init_reset.md): how each is accepted, and what each sends
when the transport opens and never aborts. -/

namespace Sys2Proof.Machine

/-! ## An operation from its acceptance to its end -/

/-- What an idle PDC that takes operation `i` starts from: only the operand registers are not as before (R97 step 5). -/
theorem State.begun_of_idle {s : State} (hi : s.idle = true) (i : Instr) :
    s.begun i s.host = State.apartFromAnswers { s with
      polls := (accepted s i).polls, plen := (accepted s i).plen, fill := (accepted s i).fill,
      imgw := (accepted s i).imgw, imgh := (accepted s i).imgh } := by
  obtain ⟨hseq, -⟩ := s.idle_iff.1 hi
  simp [State.begun, State.take, State.apartFromAnswers, hseq]

/-- An operation whose micro-operations nothing stops is accepted and completes as they say. -/
theorem operation_completes {s : State} {i : Instr} (hi : s.idle = true) (hp : s.phase = phaseNeeded i)
    (hturn : turnedAway s i = none) (hcalm : s.Calm (expansion s.cfg i)) :
    ∃ a t, exec i s = .next a ∧ Completes a t ∧ t.apartFromAnswers = s.ran i s.host := by
  obtain ⟨t, hc, ht⟩ := completes_quietly (s := s.take i)
    ⟨hcalm.legal, hcalm.running, hcalm.smooth, hcalm.writes, hcalm.polls⟩
  exact ⟨_, t, exec_of_phase hi hp hturn, hc, ht⟩

/-- So does one that first opens the transport, when the transport opens (R150). -/
theorem opening_operation_completes {s : State} {i : Instr} {ops : List MicroOp} (hi : s.idle = true)
    (hp : s.phase = phaseNeeded i) (hturn : turnedAway s i = none) (hops : expansion s.cfg i = .uOpen :: ops)
    (hopen : s.opensNow = true) (hcalm : s.Calm ops) :
    ∃ a t, exec i s = .next a ∧ Completes a t ∧ t.apartFromAnswers = s.ran i s.host := by
  let u : State := State.drawnOpen { s.take i with seq := ops }
  have hopened : Steps 1 (s.take i) (u.emit (.open true)) :=
    steps_perform hcalm.legal hcalm.running hops
      (congrArg _ (performOpen_of_opensNow (s := { s.take i with seq := ops }) hopen))
  obtain ⟨t, ⟨⟨n, hn⟩, hidle, hhost⟩, ht⟩ := completes_quietly (s := u.emit (.open true))
    ⟨hcalm.legal, hcalm.running, hcalm.smooth, hcalm.writes, hcalm.polls⟩
  refine ⟨_, t, exec_of_phase hi hp hturn, ⟨⟨_, hopened.trans hn⟩, hidle, hhost⟩, ht.trans ?_⟩
  rw [State.ran, hops]
  rfl

/-! ## The frames of the panel commands -/

/-- The selected waveform table is not empty (R9, R64). -/
theorem Config.lut_ne_nil {c : Config} (h : c.legal = true) : c.lut ≠ [] := by
  simp only [Config.legal, Config.legalTables, Bool.and_eq_true, beq_iff_eq] at h
  obtain ⟨⟨⟨-, hfull, hpartial⟩, -⟩, -⟩ := h
  refine List.ne_nil_of_length_pos ?_
  cases hsel : c.lutSelect <;> simp [Config.lut, Config.rom, hsel, hfull, hpartial]

/-- The payload of a panel command ends with data/command-select high (R162, R163). -/
theorem foldl_dcAfter_payloadFrames (c : Config) (b : Byte) (bs : List Byte) (d : Latch) :
    (payloadFrames c (b :: bs)).foldl dcAfter d = .driven .high := by
  unfold payloadFrames
  split
  · induction bs generalizing b d with
    | nil => rfl
    | cons b' bs ih => rw [List.flatMap_cons, List.foldl_append, ih]
  · rfl

/-- The forms of a panel command, as micro-operations and as events: a code with a payload (R163), a code with the bytes
of a row (R205), a code alone (R207, R208). -/
inductive PanelForm (c : Config) : List MicroOp → List Event → Prop
  | payload (code b : Byte) (bs : List Byte) : PanelForm c (cmd c code (b :: bs)) (commandEvents c code (b :: bs))
  | row (code : Byte) (bytes : List Byte) :
      PanelForm c (opsWriteRam code (.uWrImm bytes)) (commandFrame code ++ dataFrame bytes)
  | bare (code : Byte) : PanelForm c (frameC code) (commandFrame code)

/-- Every panel command has one of them (R136 to R142, R185, R186, R188, R189, R205 to R208). -/
theorem panelForm_expansion {c : Config} {i : Instr} {es : List Event} (hl : c.legal = true)
    (h : panelEvents c i = some es) : PanelForm c (expansion c i) es := by
  cases i
  case cmdWriteLut =>
    cases h
    obtain ⟨b, bs, hlut⟩ := List.exists_cons_of_ne_nil (Config.lut_ne_nil hl)
    rw [hlut, expansion, opsWriteLut, payloadWriteLut, hlut]
    exact .payload _ _ _
  case cmdWriteRam => cases h; exact .row _ _
  case cmdMasterActivation => cases h; exact .bare _
  case cmdTerminateFrame => cases h; exact .bare _
  all_goals cases h <;> exact .payload _ _ _

/-- A panel command asks nothing of the state. -/
theorem PanelForm.smooth {c : Config} {ops : List MicroOp} {es : List Event} (h : PanelForm c ops es) (d : Config) :
    Smooth d ops := by
  cases h <;> simp [opsWriteRam, frameC]

/-- A frame could poll the busy line only by the micro-operation inside it (R162). -/
@[simp] theorem uPoll_mem_frame {l : Level} {w : MicroOp} : .uPoll ∈ frame l w ↔ .uPoll = w := by
  simp [frame]

/-- No panel command polls the busy line (R163). -/
@[simp] theorem uPoll_notMem_cmd (c : Config) (code : Byte) (bytes : List Byte) : .uPoll ∉ cmd c code bytes := by
  cases bytes with
  | nil => simp [cmd, frameC]
  | cons b bs => cases hf : c.framePerByte <;> simp [cmd, payload, frameC, frameD, hf]

/-- So a panel command does not wait. -/
theorem PanelForm.uPoll_notMem {c : Config} {ops : List MicroOp} {es : List Event} (h : PanelForm c ops es) :
    .uPoll ∉ ops := by
  cases h <;> simp [opsWriteRam, frameC]

/-- A panel command sends its frames. -/
theorem PanelForm.foldl_quietly {c : Config} {ops : List MicroOp} {es : List Event} (h : PanelForm c ops es)
    (s : State) : ops.foldl State.quietly s =
      { s with dc := es.foldl dcAfter s.dc, cs := .driven .high, trace := s.trace ++ es } := by
  cases h with
  | payload code b bs =>
    rw [foldl_cmd_cons, commandEvents, List.foldl_append, foldl_dcAfter_payloadFrames, State.sent]
  | row code bytes =>
    rw [opsWriteRam, List.foldl_append, foldl_frameC, foldl_frame (writes_uWrImm _ bytes), State.sent_sent]
    rfl
  | bare code => exact foldl_frameC s code

/-! ## `INIT` (R134) -/

/-- The reset pulse (R131). -/
theorem foldl_opsResetPulse (c : Config) (s : State) :
    (opsResetPulse c).foldl State.quietly s =
      { s with rst := .driven .high, trace := s.trace ++ resetPulseEvents c } := by
  simp [opsResetPulse, State.quietly, State.emit, resetPulseEvents]

/-- The seven configuration commands (R133). -/
theorem foldl_opsConfigure {c : Config} (hl : c.legal = true) (s : State) :
    (opsConfigure c).foldl State.quietly s = s.sent .high (configureEvents c) := by
  obtain ⟨b, bs, hlut⟩ := List.exists_cons_of_ne_nil (Config.lut_ne_nil hl)
  simp [opsConfigure, opsDriverOutput, payloadDriverOutput, opsBoosterSoftStart, payloadBoosterSoftStart, opsWriteVcom,
    payloadWriteVcom, opsDummyLinePeriod, payloadDummyLinePeriod, opsGateLineWidth, payloadGateLineWidth,
    opsDataEntryMode, payloadDataEntryMode, opsWriteLut, payloadWriteLut, configureEvents, hlut]

/-- `INIT`, its micro-operations one after the other. -/
theorem foldl_opsInit {c : Config} (hl : c.legal = true) (s : State) :
    (opsInit c).foldl State.quietly s =
      { s with
        phase := .ready, rst := .driven .high, dc := .driven .high, cs := .driven .high,
        trace := s.trace ++ [.open true] ++ resetPulseEvents c ++ configureEvents c } := by
  simp only [opsInit, List.foldl_append, List.foldl_cons, List.foldl_nil, foldl_opsResetPulse, foldl_opsConfigure hl]
  rfl

/-- `INIT` after its `uOPEN`. -/
def opsInitOpened (c : Config) : List MicroOp := (opsInit c).tail

theorem opsInit_eq_cons (c : Config) : opsInit c = .uOpen :: opsInitOpened c := rfl

/-- Once the transport is open, `INIT` asks nothing more of the state, and it never polls the busy line (R134). -/
theorem smooth_and_uPoll_notMem_opsInitOpened (c : Config) :
    Smooth c (opsInitOpened c) ∧ .uPoll ∉ opsInitOpened c := by
  simp [opsInitOpened, opsInit, opsResetPulse, opsConfigure, opsDriverOutput, opsBoosterSoftStart, opsWriteVcom,
    opsDummyLinePeriod, opsGateLineWidth, opsDataEntryMode, opsWriteLut, MicroOp.inRange]

/-- Settles O36: the transport opens, and the rest of the expansion meets no abort and no wait. -/
theorem initSendsThePulseAndTheSevenCommands : Obligations.InitSendsThePulseAndTheSevenCommands := by
  unfold Obligations.InitSendsThePulseAndTheSevenCommands
  intro s ⟨hl, hi, hp⟩ hopen ha
  obtain ⟨-, hhalt⟩ := s.idle_iff.1 hi
  obtain ⟨hsmooth, hpoll⟩ := smooth_and_uPoll_notMem_opsInitOpened s.cfg
  have hcalm : s.Calm (opsInitOpened s.cfg) :=
    { legal := hl, running := hhalt, smooth := hsmooth, writes := fun _ _ _ => ha, polls := fun hm => absurd hm hpoll }
  obtain ⟨a, t, hx, hc, ht⟩ :=
    opening_operation_completes (i := .init) hi hp rfl (opsInit_eq_cons s.cfg) hopen hcalm
  refine ⟨a, t, hx, hc, ht.trans ?_⟩
  rw [State.ran, State.begun_of_idle hi, expansion, foldl_opsInit hl]
  rfl

/-! ## The panel commands -/

/-- A panel command is taken in phase `Ready` at every operand, and acceptance writes no register (log entry 4). -/
theorem take_of_panelEvents {s : State} {c : Config} {i : Instr} {es : List Event} (h : panelEvents c i = some es) :
    phaseNeeded i = .ready ∧ turnedAway s i = none ∧ s.take i = { s with seq := expansion s.cfg i } := by
  cases i
  all_goals cases h <;> exact ⟨rfl, rfl, rfl⟩

/-- Settles O49: a panel command is of one of three forms, and each sends its frames. -/
theorem panelCommandTraces : Obligations.PanelCommandTraces := by
  unfold Obligations.PanelCommandTraces
  intro s i es ⟨hl, hi, hp⟩ ha _ hes
  obtain ⟨hseq, hhalt⟩ := s.idle_iff.1 hi
  obtain ⟨hneed, hturn, htake⟩ := take_of_panelEvents (s := s) hes
  have hform : PanelForm s.cfg (expansion s.cfg i) es := panelForm_expansion hl hes
  have hcalm : s.Calm (expansion s.cfg i) :=
    { legal := hl, running := hhalt, smooth := hform.smooth s.cfg, writes := fun _ _ _ => ha,
      polls := fun hm => absurd hm hform.uPoll_notMem }
  obtain ⟨a, t, hx, hc, ht⟩ := operation_completes hi (hp.trans hneed.symm) hturn hcalm
  refine ⟨a, t, hx, hc, ht.trans ?_⟩
  rw [State.ran, hform.foldl_quietly, State.begun, htake]
  simp [State.apartFromAnswers, hseq]

/-- Settles O13: no panel command is turned away, and its micro-operations are all it loads. -/
theorem panelCommandsAreAccepted : Obligations.PanelCommandsAreAccepted := by
  unfold Obligations.PanelCommandsAreAccepted
  intro s hi hp
  have htaken (i : Instr) (es : List Event) (h : panelEvents s.cfg i = some es) :
      exec i s = .next { s with seq := expansion s.cfg i } := by
    obtain ⟨hneed, hturn, htake⟩ := take_of_panelEvents (s := s) h
    rw [exec_of_phase hi (hp.trans hneed.symm) hturn, htake]
  exact ⟨htaken _ _ rfl, htaken _ _ rfl, htaken _ _ rfl, htaken _ _ rfl, htaken _ _ rfl, htaken _ _ rfl,
    htaken _ _ rfl, fun _ _ => htaken _ _ rfl, fun _ _ => htaken _ _ rfl, fun _ => htaken _ _ rfl,
    fun _ => htaken _ _ rfl, fun _ => htaken _ _ rfl, htaken _ _ rfl, htaken _ _ rfl, htaken _ _ rfl⟩

/-! ## Operations without operand registers -/

/-- The expansion of `INIT`, command by command (R131, R133, R134). -/
theorem opsInit_eq (c : Config) : opsInit c =
    [.uOpen, .uPhase .resetting, .uRst .high, .uSleep c.tRstPre, .uRst .low, .uSleep c.tRstLow, .uRst .high,
      .uSleep c.tRstPost, .uPhase .configuringRegisters] ++ opsDriverOutput c ++ opsBoosterSoftStart c ++
      opsWriteVcom c ++ opsDummyLinePeriod c ++ opsGateLineWidth c ++ opsDataEntryMode c ++ opsWriteLut c ++
      [.uPhase .ready] := by
  simp [opsInit, opsResetPulse, opsConfigure]

/-- Settles O10: each is taken with its own expansion. -/
theorem operationsWithoutRegistersAreAccepted : Obligations.OperationsWithoutRegistersAreAccepted := by
  unfold Obligations.OperationsWithoutRegistersAreAccepted
  intro s hi
  refine ⟨fun hp => ?_, fun hp => ?_⟩
  · rw [exec_of_phase (i := .init) hi hp rfl, State.take, expansion, opsInit_eq]
    rfl
  · exact ⟨exec_of_phase hi hp rfl, fun _ => exec_of_phase hi hp rfl, exec_of_phase hi hp rfl,
      fun _ _ _ _ => exec_of_phase hi hp rfl, fun _ _ => exec_of_phase hi hp rfl, exec_of_phase hi hp rfl⟩

/-- Settles O37: `CLOSE` writes nothing to the transport, so it asks nothing of it. -/
theorem closeReturnsToUnpowered : Obligations.CloseReturnsToUnpowered := by
  unfold Obligations.CloseReturnsToUnpowered
  intro s ⟨hl, hi, hp⟩
  obtain ⟨-, hhalt⟩ := s.idle_iff.1 hi
  have hcalm : s.Calm opsClose :=
    { legal := hl, running := hhalt, smooth := by simp [opsClose, MicroOp.inRange],
      writes := by simp [opsClose, MicroOp.isWrite], polls := by simp [opsClose] }
  obtain ⟨a, t, hx, hc, ht⟩ := operation_completes (i := .close) hi hp rfl hcalm
  refine ⟨a, t, hx, hc, ht.trans ?_⟩
  rw [State.ran, State.begun_of_idle hi]
  rfl

end Sys2Proof.Machine

/-! PROOFS. The framing invariants (spec/41_framing.md R165): every step keeps them, and what they say of a write. -/

namespace Sys2Proof.Machine

/-! ## Where a trace stands (R165) -/

@[simp] theorem framing_append (es fs : List Event) : framing (es ++ fs) = fs.foldl Framing.next (framing es) :=
  List.foldl_append

/-- What is broken stays broken. -/
@[simp] theorem Framing.next_broken (e : Event) : Framing.broken.next e = .broken := rfl

@[simp] theorem foldl_next_broken (es : List Event) : es.foldl Framing.next .broken = .broken :=
  List.foldl_fixed' Framing.next_broken es

@[simp] theorem Framing.afterOp_broken (c : Config) (m : MicroOp) : Framing.broken.afterOp c m = .broken := by
  cases m <;> rfl

@[simp] theorem foldl_afterOp_broken (c : Config) (ops : List MicroOp) :
    ops.foldl (Framing.afterOp c) .broken = .broken :=
  List.foldl_fixed' (Framing.afterOp_broken c) ops

/-- Of the bytes of a write, only their number matters to the framing. -/
theorem Framing.next_wr_congr (f : Framing) {bytes bytes' : List Byte} (h : bytes.length = bytes'.length) :
    f.next (.wr bytes) = f.next (.wr bytes') := by
  have hnil : bytes = [] ↔ bytes' = [] := by rw [← List.length_eq_zero_iff, h, List.length_eq_zero_iff]
  cases f with
  | opened l => cases l <;> simp [Framing.next, h, hnil]
  | closed | selected | written | broken => rfl

/-- A poll that goes on leads where the poll after it will lead (R201). -/
theorem Framing.next_poll_again (f : Framing) (n : Nat) :
    ((f.next (.busy .high)).next (.sleep n)).next (.busy .low) = f.next (.busy .low) := by
  cases f with
  | opened l => cases l <;> rfl
  | closed | selected | written | broken => rfl

/-- Whatever `open()` and the busy line answer, the framing is the same. -/
theorem Framing.next_answer (f : Framing) : f.next (.open false) = f.next (.open true) ∧
    f.next (.busy .high) = f.next (.busy .low) := by
  cases f with
  | opened l => cases l <;> exact ⟨rfl, rfl⟩
  | closed | selected | written | broken => exact ⟨rfl, rfl⟩

/-! ## The framing of a micro-operation -/

theorem State.wellFramed_of_running {s : State} (hh : s.halt = false) :
    s.WellFramed ↔ s.seq.foldl (Framing.afterOp s.cfg) (framing s.trace) = .closed := by
  simp [State.WellFramed, hh]

theorem State.wellFramed_of_halted {s : State} (hh : s.halt = true) :
    s.WellFramed ↔ framing s.trace ≠ .broken ∧ s.seq = [] := by
  simp [State.WellFramed, hh]

/-- The trace of a well-framed state is not broken, since what is pending could not mend it. -/
theorem State.WellFramed.framing_ne_broken {s : State} (h : s.WellFramed) : framing s.trace ≠ .broken := by
  cases hh : s.halt with
  | true => exact ((State.wellFramed_of_halted hh).1 h).1
  | false =>
    intro hb
    rw [State.wellFramed_of_running hh, hb, foldl_afterOp_broken] at h
    cases h

/-- From `s` to `t` the framing goes where micro-operation `m` leads it: if `t` runs on, what is pending ends where `m`
and what was pending would have ended; if `t` is halted, the trace is broken only if `m` would have broken it. -/
structure KeepsFraming (m : MicroOp) (s t : State) : Prop where
  running : t.halt = false →
    t.seq.foldl (Framing.afterOp s.cfg) (framing t.trace) = (m :: s.seq).foldl (Framing.afterOp s.cfg) (framing s.trace)
  halted  : t.halt = true → s.halt = false →
    t.seq = [] ∧ (framing t.trace = .broken → (framing s.trace).afterOp s.cfg m = .broken)

/-- The micro-operation that goes on with the framing `afterOp` gives. -/
theorem keepsFraming_of_seq_eq {m : MicroOp} {s t : State} (hh : t.halt = s.halt) (hseq : t.seq = s.seq)
    (hf : framing t.trace = (framing s.trace).afterOp s.cfg m) : KeepsFraming m s t where
  running _ := by rw [hseq, hf]; rfl
  halted ht hs := by rw [hh, hs] at ht; cases ht

/-- The micro-operation that halts. -/
theorem keepsFraming_of_halt {m : MicroOp} {s t : State} (hh : t.halt = true) (hseq : t.seq = [])
    (hf : framing t.trace = .broken → (framing s.trace).afterOp s.cfg m = .broken) : KeepsFraming m s t where
  running ht := by rw [hh] at ht; cases ht
  halted _ _ := ⟨hseq, hf⟩

/-- A write, whether it aborts or not (R155). -/
theorem performWrite_keepsFraming {m : MicroOp} {s : State} {bytes : List Byte}
    (hm : (framing s.trace).afterOp s.cfg m = (framing s.trace).next (.wr bytes)) :
    KeepsFraming m s (performWrite bytes s) := by
  rcases performWrite_cases bytes s with ⟨-, h⟩ | ⟨-, h⟩ <;> rw [h]
  · exact keepsFraming_of_seq_eq rfl rfl (by simp [hm])
  · exact keepsFraming_of_halt rfl rfl fun hb => by rw [show framing s.trace = .broken from hb, Framing.afterOp_broken]

/-- Every micro-operation does what `afterOp` says of it. -/
theorem perform_keepsFraming {m : MicroOp} {s t : State} (h : perform m s = .next t) : KeepsFraming m s t := by
  obtain ⟨hopen, hbusy⟩ := Framing.next_answer (framing s.trace)
  cases m
  case uOpen =>
    cases h
    rcases performOpen_cases s with ⟨-, h⟩ | ⟨-, h⟩ <;> rw [h]
    · exact keepsFraming_of_seq_eq rfl rfl (by simp [Framing.afterOp])
    · exact keepsFraming_of_halt rfl rfl fun hb => by simpa [Framing.afterOp, hopen] using hb
  case uWrImm bytes => cases h; exact performWrite_keepsFraming rfl
  case uWrFill n => cases h; exact performWrite_keepsFraming (Framing.next_wr_congr _ (by simp))
  case uWrRow j =>
    obtain ⟨-, rfl⟩ := performWriteFrom_next h
    exact performWrite_keepsFraming (Framing.next_wr_congr _ (by simp))
  case uWrPay n =>
    obtain ⟨-, rfl⟩ := performWriteFrom_next h
    exact performWrite_keepsFraming (Framing.next_wr_congr _ (by simp))
  case uPoll =>
    cases h
    rcases performPoll_cases s with ⟨-, h⟩ | ⟨-, -, h⟩ | ⟨-, -, h⟩ <;> rw [h]
    · exact keepsFraming_of_seq_eq rfl rfl (by simp [Framing.afterOp])
    · exact ⟨fun _ => by simp [Framing.afterOp, Framing.next_poll_again], fun ht hs => by simp [hs] at ht⟩
    · exact keepsFraming_of_halt rfl rfl fun hb => by simpa [Framing.afterOp, hbusy] using hb
  case uPack => cases h; rw [packImage_eq]; exact keepsFraming_of_seq_eq rfl rfl rfl
  case uPhase | uSetWin | uSetCur => cases h; exact keepsFraming_of_seq_eq rfl rfl rfl
  all_goals cases h; exact keepsFraming_of_seq_eq rfl rfl (by simp [Framing.afterOp])

/-- So it keeps the framing invariants. -/
theorem perform_wellFramed {m : MicroOp} {s t : State} (h : perform m s = .next t) (hh : s.halt = false)
    (hs : (m :: s.seq).foldl (Framing.afterOp s.cfg) (framing s.trace) = .closed) : t.WellFramed := by
  obtain ⟨hrun, hhalt⟩ := perform_keepsFraming h
  cases ht : t.halt with
  | false => rw [State.wellFramed_of_running ht, (perform_performed h).cfg, hrun ht, hs]
  | true =>
    obtain ⟨hseq, hb⟩ := hhalt ht hh
    refine (State.wellFramed_of_halted ht).2 ⟨fun hbt => ?_, hseq⟩
    rw [List.foldl_cons, hb hbt, foldl_afterOp_broken] at hs
    cases hs

/-! ## The frames of an expansion -/

/-- From where no frame is open, these micro-operations keep the framing invariants and leave no frame open. -/
def Framed (c : Config) (ops : List MicroOp) : Prop := ops.foldl (Framing.afterOp c) .closed = .closed

theorem Framed.nil {c : Config} : Framed c [] := rfl

theorem Framed.append {c : Config} {ops ops' : List MicroOp} (h : Framed c ops) (h' : Framed c ops') :
    Framed c (ops ++ ops') := by
  rw [Framed, List.foldl_append, h, h']

theorem Framed.cons {c : Config} {m : MicroOp} {ops : List MicroOp} (hm : Framing.closed.afterOp c m = .closed)
    (h : Framed c ops) : Framed c (m :: ops) := by
  rw [Framed, List.foldl_cons, hm, h]

theorem framed_flatMap {α : Type} {c : Config} {f : α → List MicroOp} (h : ∀ x, Framed c (f x)) (l : List α) :
    Framed c (l.flatMap f) := by
  induction l with
  | nil => rfl
  | cons x l ih => exact (h x).append ih

/-- A frame is well framed when its one write is allowed in it (R162). -/
theorem framed_frame {c : Config} {l : Level} {w : MicroOp} (h : (Framing.opened l).afterOp c w = .written) :
    Framed c (frame l w) := by
  change ((Framing.opened l).afterOp c w).next (.cs .high) = .closed
  rw [h]
  rfl

theorem framed_frameC (c : Config) (code : Byte) : Framed c (frameC code) := framed_frame rfl

theorem framed_frameD {bytes : List Byte} (c : Config) (h : bytes ≠ []) : Framed c (frameD bytes) :=
  framed_frame (if_neg h)

/-- A panel command is well framed: no data frame of it is without a byte (R163; log entry 21). -/
@[simp] theorem framed_cmd (c d : Config) (code : Byte) (bytes : List Byte) : Framed d (cmd c code bytes) := by
  cases bytes with
  | nil => exact framed_frameC d code
  | cons b bs =>
    refine (framed_frameC d code).append ?_
    unfold payload
    split
    · exact framed_flatMap (fun x => framed_frameD d (List.cons_ne_nil x [])) _
    · exact framed_frameD d (List.cons_ne_nil b bs)

/-- A row is well framed when its write is allowed in a data frame (R205). -/
theorem framed_opsWriteRam {c : Config} {w : MicroOp} (code : Byte)
    (h : (Framing.opened .high).afterOp c w = .written) : Framed c (opsWriteRam code w) :=
  (framed_frameC c code).append (framed_frame h)

/-- `uSETWIN` belongs to no frame (R187). -/
theorem framed_opsSetWindow (c d : Config) (xs ys xe ye : Half) : Framed d (opsSetWindow c xs ys xe ye) :=
  .cons rfl ((framed_cmd c d _ _).append (framed_cmd c d _ _))

/-- Neither do `uSETCUR` and `uPOLL` (R190). -/
theorem framed_opsSetCursor (c d : Config) (x y : Half) : Framed d (opsSetCursor c x y) :=
  .cons rfl (((framed_cmd c d _ _).append (framed_cmd c d _ _)).append (.cons rfl .nil))

theorem framed_opsTurnOnDisplay (c d : Config) : Framed d (opsTurnOnDisplay c) :=
  (((framed_cmd c d _ _).append (framed_cmd c d _ _)).append (framed_cmd c d _ _)).append (.cons rfl .nil)

/-- The rows of `CLEAR` and `DISPLAY` (R210). -/
theorem framed_opsRows {c d : Config} {w : Nat → MicroOp}
    (h : ∀ j, (Framing.opened .high).afterOp d (w j) = .written) : Framed d (opsRows c w) :=
  framed_flatMap (fun j => (framed_opsSetCursor ..).append (framed_opsWriteRam _ (h j))) _

theorem framed_opsConfigure (c d : Config) : Framed d (opsConfigure c) :=
  ((((((framed_cmd c d _ _).append (framed_cmd c d _ _)).append (framed_cmd c d _ _)).append
    (framed_cmd c d _ _)).append (framed_cmd c d _ _)).append (framed_cmd c d _ _)).append (framed_cmd c d _ _)

theorem framed_opsResetPulse (c d : Config) : Framed d (opsResetPulse c) := rfl

/-- The phases of `INIT` belong to no frame (R134). -/
theorem framed_opsInit (c d : Config) : Framed d (opsInit c) :=
  ((((Framed.cons rfl (.cons rfl .nil)).append (framed_opsResetPulse c d)).append (.cons rfl .nil)).append
    (framed_opsConfigure c d)).append (.cons rfl .nil)

/-- Copies of a byte, at least one, may be the write of a data frame. -/
theorem next_wr_replicate {n : Nat} (h : n ≠ 0) (b : Byte) :
    (Framing.opened .high).next (.wr (List.replicate n b)) = .written :=
  if_neg (by simpa using h)

/-- What an accepted instruction loads is well framed. -/
theorem framed_expansion {s : State} {i : Instr} (hl : s.cfg.legal = true) (hwf : i.wf s.cfg = true)
    (hturn : turnedAway s i = none) : Framed s.cfg (expansion s.cfg i) := by
  have hwb : s.cfg.wb ≠ 0 := by
    obtain ⟨-, hwb, -⟩ := Config.legal_geometry hl
    omega
  have hwrite (_ : Nat) := next_wr_replicate hwb 0
  cases i
  case init => exact framed_opsInit ..
  case sendCommand code => exact framed_frameC ..
  case sendData n =>
    have hn : n.toNat ≠ 0 := fun h0 => by
      have hz : n = 0 := BitVec.eq_of_toNat_eq h0
      simp [turnedAway, hz] at hturn
    exact framed_frame (next_wr_replicate hn 0)
  case setWindow => exact framed_opsSetWindow ..
  case setCursor => exact framed_opsSetCursor ..
  case turnOnDisplay => exact framed_opsTurnOnDisplay ..
  case display =>
    exact (((framed_opsSetWindow ..).append (.cons rfl .nil)).append (framed_opsRows (w := .uWrRow) hwrite)).append
      (framed_opsTurnOnDisplay ..)
  case clear =>
    exact ((framed_opsSetWindow ..).append (framed_opsRows (w := fun _ => .uWrFill s.cfg.wb) hwrite)).append
      (framed_opsTurnOnDisplay ..)
  case waitIdle | close | pack => rfl
  case cmdWriteRam row =>
    have hrow : row.length = s.cfg.wb := by simpa [Instr.wf] using hwf
    exact framed_opsWriteRam _ (if_neg (List.ne_nil_of_length_pos (by omega)))
  all_goals simp [expansion, opsDriverOutput, opsBoosterSoftStart, opsWriteVcom, opsDummyLinePeriod, opsGateLineWidth,
    opsDataEntryMode, opsWriteLut, opsSetRamXRange, opsSetRamYRange, opsSetRamXCounter, opsSetRamYCounter,
    opsDisplayUpdate2, opsMasterActivation, opsTerminateFrame]

/-! ## A presented instruction is well formed -/

/-- If a decoder's answer is an instruction, it is a well-formed one. -/
def AnswersWf (c : Config) (r : Except DecodeError Instr) : Prop := ∀ i, r = .ok i → i.wf c = true

theorem AnswersWf.ok {c : Config} {i : Instr} (h : i.wf c = true) : AnswersWf c (.ok i) := by
  rintro _ ⟨⟩
  exact h

theorem AnswersWf.error {c : Config} {e : DecodeError} : AnswersWf c (.error e) := nofun

theorem AnswersWf.ite {c : Config} {p : Prop} [Decidable p] {r r' : Except DecodeError Instr}
    (h : p → AnswersWf c r) (h' : AnswersWf c r') : AnswersWf c (if p then r else r') :=
  iteInduction h fun _ => h'

/-- The decoder takes as many bytes for a row as a row has (R205). -/
theorem answersWf_decodeCommand (c : Config) (bytes : List Byte) : AnswersWf c (decodeCommand c bytes) := by
  cases bytes with
  | nil => exact .error
  | cons code ops =>
    have bare {i : Instr} (h : i.wf c = true) (p : Prop) : p → AnswersWf c (.ok i) := fun _ => .ok h
    unfold decodeCommand
    refine .ite (bare rfl _) <| .ite (bare rfl _) <| .ite (bare rfl _) <| .ite (bare rfl _) <| .ite (bare rfl _) <|
      .ite (bare rfl _) <| .ite (bare rfl _) <| .ite (fun _ => ?xRange) <| .ite (fun _ => ?yRange) <|
      .ite (fun _ => ?xCounter) <| .ite (fun _ => ?yCounter) <|
      .ite (fun _ => .ite (fun hlen => .ok (by simpa [Instr.wf] using hlen)) .error) <| .ite (bare rfl _) <|
      .ite (bare rfl _) <| .ite (bare rfl _) .error
    case xRange => split; exacts [.ok rfl, .error]
    case yRange => split; exacts [.ok rfl, .error]
    case xCounter => split; exacts [.ok rfl, .error]
    case yCounter => split; exacts [.ok rfl, .error]

/-- Only well-formed instructions are presented. -/
theorem decode_wf {c : Config} {w : CodeWord} {i : Instr} (h : decode c w = .ok i) : i.wf c = true := by
  cases w with
  | request w =>
    have hd := decodes_decodeRequest w
    rw [show decodeRequest w = .ok i from h] at hd
    cases hd <;> rfl
  | command bytes => exact answersWf_decodeCommand c bytes i h

/-! ## The invariant -/

/-- Settles O26: a micro-operation goes on with what was pending, and what is accepted while no frame is open opens and
closes its own frames. -/
theorem stepKeepsFraming : Obligations.StepKeepsFraming := by
  unfold Obligations.StepKeepsFraming
  intro s t hw h
  obtain ⟨hl, hh, hcases⟩ := step_cases h
  obtain ⟨m, rest, hs, hp⟩ | ⟨hs, ho, rfl⟩ | ⟨w, rest, e, hs, ho, -, rfl⟩ | ⟨w, rest, i, hs, ho, hd, hx⟩ |
    ⟨bytes, rest, hs, ho, hb, rfl⟩ | ⟨bytes, rest, hs, ho, rfl⟩ := hcases
  · rw [State.wellFramed_of_running hh, hs] at hw
    exact perform_wellFramed hp hh hw
  · exact hw
  · exact hw
  · obtain ⟨-, ⟨f, -, rfl⟩ | ⟨-, hturn, rfl⟩⟩ := exec_cases hx
    · exact hw
    · rw [State.wellFramed_of_running hh, hs, List.foldl_nil] at hw
      have hf : Framed s.cfg (expansion s.cfg i) :=
        framed_expansion (s := { s with host := rest }) hl (decode_wf hd) hturn
      refine (State.wellFramed_of_running (s := State.take { s with host := rest } i) hh).2 ?_
      exact (congrArg ((expansion s.cfg i).foldl (Framing.afterOp s.cfg)) hw).trans hf
  · exact hw
  · exact hw

/-! ## Frames in a trace (R165) -/

/-- A write is made in an open frame without a write, and carries what the frame's kind allows. -/
theorem Framing.next_wr_ne_broken {f : Framing} {bytes : List Byte} (h : f.next (.wr bytes) ≠ .broken) :
    ∃ l, f = .opened l ∧ f.next (.wr bytes) = .written ∧ bytes ≠ [] ∧ (l = .low → bytes.length = 1) := by
  cases f with
  | opened l =>
    refine ⟨l, rfl, ?_⟩
    cases l with
    | low =>
      have hlen : bytes.length = 1 := by simpa [Framing.next] using h
      exact ⟨if_pos hlen, List.ne_nil_of_length_pos (by omega), fun _ => hlen⟩
    | high =>
      have hne : bytes ≠ [] := by simpa [Framing.next] using h
      exact ⟨if_neg hne, hne, by simp⟩
  | closed | selected | written | broken => exact absurd rfl h

/-- After its write a frame can only be closed. -/
theorem Framing.next_written_ne_broken {e : Event} (h : Framing.written.next e ≠ .broken) : e = .cs .high := by
  unfold Framing.next at h
  split at h <;> simp_all

/-- Only a `DC` event selects a frame's kind. -/
theorem Framing.next_eq_selected {f : Framing} {e : Event} {l : Level} (h : f.next e = .selected l) : e = .dc l := by
  unfold Framing.next at h
  split at h <;> grind

/-- Only `CS(0)` opens a frame, of the kind just selected. -/
theorem Framing.next_eq_opened {f : Framing} {e : Event} {l : Level} (h : f.next e = .opened l) :
    f = .selected l ∧ e = .cs .low := by
  unfold Framing.next at h
  split at h <;> grind

/-- Where a frame's kind is selected, the trace ends with the `DC` event that did so. -/
theorem framing_eq_selected {es : List Event} {l : Level} (h : framing es = .selected l) :
    ∃ front, es = front ++ [.dc l] := by
  obtain rfl | ⟨front, e, rfl⟩ := List.eq_nil_or_concat' es
  · cases h
  · rw [framing_append] at h
    exact ⟨front, by rw [Framing.next_eq_selected h]⟩

/-- Where a frame without a write is open, the trace ends with the two events that opened it. -/
theorem framing_eq_opened {es : List Event} {l : Level} (h : framing es = .opened l) :
    ∃ front, es = front ++ [.dc l, .cs .low] := by
  obtain rfl | ⟨front, e, rfl⟩ := List.eq_nil_or_concat' es
  · cases h
  · rw [framing_append] at h
    obtain ⟨hsel, rfl⟩ := Framing.next_eq_opened h
    obtain ⟨front', rfl⟩ := framing_eq_selected hsel
    exact ⟨front', List.append_assoc _ _ _⟩

/-- Settles O27: a write that breaks nothing is made in an open frame, and the next event that breaks nothing closes it.
-/
theorem everyWriteIsInItsFrame : Obligations.EveryWriteIsInItsFrame := by
  unfold Obligations.EveryWriteIsInItsFrame
  intro s before after bytes hs htrace
  have hok : after.foldl Framing.next ((framing before).next (.wr bytes)) ≠ .broken := by
    have h := hs.framing_ne_broken
    rwa [htrace, framing_append] at h
  obtain ⟨l, hopened, hwritten, hne, hlow⟩ :=
    Framing.next_wr_ne_broken fun hb => hok (by rw [hb, foldl_next_broken])
  obtain ⟨front, hfront⟩ := framing_eq_opened hopened
  refine ⟨l, front, hfront, hne, hlow, ?_⟩
  cases after with
  | nil => exact .inl rfl
  | cons e tail =>
    rw [hwritten] at hok
    have he := Framing.next_written_ne_broken fun hb => hok (by rw [List.foldl_cons, hb, foldl_next_broken])
    exact .inr ⟨tail, by rw [he]⟩

end Sys2Proof.Machine

/-! PROOFS. What sends a frame (spec/41_framing.md): its micro-operations (R150 to R161), commands and their payloads
(R163), `SEND_COMMAND` and `SEND_DATA` (R164, R166), and what a fault leaves of them (R232, R233). -/

namespace Sys2Proof.Machine

/-! ## What the micro-operations of a frame do (R150 to R161) -/

/-- A transport that does not open (R150, R232). -/
theorem performOpen_of_not_opensNow {s : State} (h : s.opensNow = false) :
    performOpen s = (s.drawnOpen.emit (.open false)).raise .setupFailure := by
  rcases performOpen_cases s with ⟨hy, -⟩ | ⟨-, he⟩
  · simp [h] at hy
  · exact he

/-- A write that does not abort (R155). -/
theorem performWrite_of_not_abortsNow {s : State} (h : s.abortsNow = false) (bytes : List Byte) :
    performWrite bytes s = s.drawnAbort.emit (.wr bytes) := by
  rcases performWrite_cases bytes s with ⟨-, he⟩ | ⟨hy, -⟩
  · exact he
  · simp [h] at hy

/-- A write that aborts (R155, R233). -/
theorem performWrite_of_abortsNow {s : State} (h : s.abortsNow = true) (bytes : List Byte) :
    performWrite bytes s = s.drawnAbort.raise .transportAbort := by
  rcases performWrite_cases bytes s with ⟨hn, -⟩ | ⟨-, he⟩
  · simp [h] at hn
  · exact he

/-- A row of the panel is written from `BUF` (R156). -/
theorem perform_uWrRow {s : State} {j : Nat} (h : j < s.cfg.height) :
    perform (.uWrRow j) s = .next (performWrite (s.bytesAt .buf (j * s.cfg.wb) s.cfg.wb) s) :=
  performWriteFrom_of_le (row_le_sizeOf h)

/-- The first bytes of `PAY` are written (R158). -/
theorem perform_uWrPay {s : State} {n : Nat} (h : n ≤ s.cfg.paySize) :
    perform (.uWrPay n) s = .next (performWrite (s.bytesAt .pay 0 n) s) :=
  performWriteFrom_of_le ((Nat.zero_add n).trans_le h)

/-- A write micro-operation in range is one write of some bytes (R155 to R158). -/
theorem perform_of_isWrite {m : MicroOp} {s : State} (hm : m.isWrite = true) (hr : m.inRange s.cfg) :
    ∃ bytes, perform m s = .next (performWrite bytes s) := by
  cases m
  case uWrImm bytes => exact ⟨bytes, rfl⟩
  case uWrFill n => exact ⟨_, rfl⟩
  case uWrRow j => exact ⟨_, perform_uWrRow hr⟩
  case uWrPay n => exact ⟨_, perform_uWrPay hr⟩
  all_goals cases hm

/-- Settles O15. -/
theorem openAnswersOrHalts : Obligations.OpenAnswersOrHalts := by
  unfold Obligations.OpenAnswersOrHalts
  exact fun s => ⟨fun h => congrArg Host.Outcome.next (performOpen_of_opensNow h),
    fun h => congrArg Host.Outcome.next (performOpen_of_not_opensNow h)⟩

/-- Settles O16: each of the four is one write, of its own bytes. -/
theorem writesEmitOrAbort : Obligations.WritesEmitOrAbort := by
  unfold Obligations.WritesEmitOrAbort
  intro s
  have hwrite {m : MicroOp} {bytes : List Byte} (h : perform m s = .next (performWrite bytes s)) :
      (s.abortsNow = false → perform m s = .next (s.drawnAbort.emit (.wr bytes))) ∧
      (s.abortsNow = true → perform m s = .next (s.drawnAbort.raise .transportAbort)) :=
    ⟨fun ha => h.trans (congrArg _ (performWrite_of_not_abortsNow ha bytes)),
      fun ha => h.trans (congrArg _ (performWrite_of_abortsNow ha bytes))⟩
  refine ⟨fun bytes => hwrite rfl, fun j hj => hwrite (perform_uWrRow hj), fun n f hf => hwrite ?_,
    fun n hn => hwrite (perform_uWrPay hn)⟩
  have hfill : s.fillVal = f := by rw [State.fillVal, hf, Held.get]
  rw [← hfill, perform]

/-- Settles O17, by the meaning of each. -/
theorem linesAndSleeps : Obligations.LinesAndSleeps := by
  unfold Obligations.LinesAndSleeps
  exact fun _ => ⟨rfl, fun _ => rfl, fun _ => rfl, fun _ => rfl, fun _ => rfl⟩

/-- Settles O18, by the meaning of each. -/
theorem registerMicroOperations : Obligations.RegisterMicroOperations := by
  unfold Obligations.RegisterMicroOperations
  exact fun _ => ⟨fun _ => rfl, fun _ _ _ _ => rfl, fun _ _ => rfl⟩

/-! ## Operations with operand registers (R166, R170, R213, R215) -/

/-- The lengths that `SEND_DATA` refuses (R97 check 3), as numbers. -/
theorem turnedAway_sendData (s : State) (n : Half) : turnedAway s (.sendData n) =
    if n.toNat = 0 ∨ s.cfg.paySize < n.toNat then some .illegalReq else none := by
  have hz : n = 0 ↔ n.toNat = 0 := BitVec.toNat_inj.symm
  simp only [turnedAway, hz]

theorem turnedAway_sendData_of_le {s : State} {n : Half} (h1 : 1 ≤ n.toNat) (hn : n.toNat ≤ s.cfg.paySize) :
    turnedAway s (.sendData n) = none := by
  rw [turnedAway_sendData, if_neg (by omega)]

/-- One row of `CLEAR` or `DISPLAY`: the cursor, the command frame, the data frame (R210). -/
theorem opsRow_eq (c : Config) (w : Nat → MicroOp) : opsRow c w = fun j =>
    opsSetCursor c 0 (BitVec.ofNat 16 j) ++ frameC c.codes.writeRam ++ [.uDc .high, .uCs .low, w j, .uCs .high] := by
  funext j
  exact (List.append_assoc _ _ _).symm

/-- Settles O11: each is taken with its registers and its own expansion, unless its length turns it away. -/
theorem operationsWithRegistersAreAccepted : Obligations.OperationsWithRegistersAreAccepted := by
  unfold Obligations.OperationsWithRegistersAreAccepted
  intro s hi hp
  refine ⟨fun n h1 hn => ?_, fun n hn => ?_, fun w h => ?_, fun w h => ?_, fun f => ?_⟩
  · exact exec_of_phase hi hp (turnedAway_sendData_of_le h1 hn)
  · rw [exec_of_idle hi, turnedAway_sendData, if_pos hn]
    exact congrArg _ (if_pos hp)
  · exact exec_of_phase hi hp rfl
  · rw [exec_of_phase (i := .display w h true) hi hp rfl, State.take, expansion, opsDisplay, opsRows, opsRow_eq]
    rfl
  · rw [exec_of_phase (i := .clear f) hi hp rfl, State.take, expansion, opsClear, opsRows, opsRow_eq]
    rfl

/-! ## The byte stream of a command (R39, R163) -/

theorem byteStreamFrom_append (l : Latch) (es fs : List Event) :
    byteStreamFrom l (es ++ fs) = byteStreamFrom l es ++ byteStreamFrom (es.foldl dcAfter l) fs := by
  induction es generalizing l with
  | nil => rfl
  | cons e es ih => simp [byteStreamFrom, ih]

/-- A payload is sent as data bytes, in one frame or in many. -/
theorem byteStreamFrom_payloadFrames (c : Config) (l : Latch) (bytes : List Byte) :
    byteStreamFrom l (payloadFrames c bytes) = bytes.map fun b => (.driven .high, b) := by
  have hframe (l : Latch) (bytes : List Byte) :
      byteStreamFrom l (dataFrame bytes) = bytes.map fun b => (.driven .high, b) := by
    simp [dataFrame, byteStreamFrom, bytesOf, dcAfter]
  unfold payloadFrames
  split
  · induction bytes generalizing l with
    | nil => rfl
    | cons b bs ih => rw [List.flatMap_cons, byteStreamFrom_append, hframe, ih]; rfl
  · exact hframe l bytes

/-- Settles O20: the byte stream of a payload does not depend on its frames. -/
theorem framePerByteKeepsTheByteStream : Obligations.FramePerByteKeepsTheByteStream := by
  unfold Obligations.FramePerByteKeepsTheByteStream
  refine fun c code b bs l => ⟨rfl, fun hf => ?_, fun hf => ?_, ?_⟩
  · rw [cmd, payload, hf]
    rfl
  · rw [cmd, payload, hf]
    rfl
  · simp only [commandEvents, byteStreamFrom_append, byteStreamFrom_payloadFrames]

/-! ## The primitives that send one frame (R164, R166) -/

/-- Settles O38: each is one frame, and nothing stops it. -/
theorem primitivesSendOneFrame : Obligations.PrimitivesSendOneFrame := by
  unfold Obligations.PrimitivesSendOneFrame
  intro s ⟨hl, hi, hp⟩ ha
  obtain ⟨-, hhalt⟩ := s.idle_iff.1 hi
  have hcalm {l : Level} {m : MicroOp} (hsmooth : Smooth s.cfg (frame l m)) (hpoll : .uPoll ≠ m) :
      s.Calm (frame l m) :=
    { legal := hl, running := hhalt, smooth := hsmooth, writes := fun _ _ _ => ha,
      polls := fun hmem => absurd (uPoll_mem_frame.1 hmem) hpoll }
  refine ⟨fun c => ?_, fun n h1 hn => ?_⟩
  · obtain ⟨a, t, hx, hc, ht⟩ := operation_completes (i := .sendCommand c) hi hp rfl
      (hcalm (smooth_frame_uWrImm s.cfg .low [c]) (by simp))
    refine ⟨a, t, hx, hc, ht.trans ?_⟩
    rw [State.ran, State.begun_of_idle hi, expansion, opsSendCommand, foldl_frameC]
    rfl
  · have hsmooth : Smooth s.cfg (opsSendData n.toNat) := by
      simpa [opsSendData, frame, MicroOp.inRange] using hn
    obtain ⟨a, t, hx, hc, ht⟩ := operation_completes (i := .sendData n) hi hp (turnedAway_sendData_of_le h1 hn)
      (hcalm hsmooth (by simp))
    refine ⟨a, t, hx, hc, ht.trans ?_⟩
    rw [State.ran, State.begun_of_idle hi, expansion, foldl_opsSendData]
    rfl

/-! ## What a fault leaves (R232, R233) -/

/-- A write is pending only where a frame without a write is open. -/
theorem framing_of_write_pending {s : State} {m : MicroOp} {rest : List MicroOp} (hs : s.WellFramed)
    (hh : s.halt = false) (hseq : s.seq = m :: rest) (hm : m.isWrite = true) : ∃ l, framing s.trace = .opened l := by
  rw [State.wellFramed_of_running hh, hseq, List.foldl_cons] at hs
  have hok : (framing s.trace).afterOp s.cfg m ≠ .broken := fun hb => by
    rw [hb, foldl_afterOp_broken] at hs
    cases hs
  obtain ⟨bytes, hbytes⟩ : ∃ bytes, (framing s.trace).afterOp s.cfg m = (framing s.trace).next (.wr bytes) := by
    cases m
    case uWrImm | uWrRow | uWrFill | uWrPay => exact ⟨_, rfl⟩
    all_goals cases hm
  rw [hbytes] at hok
  obtain ⟨l, hl, -⟩ := Framing.next_wr_ne_broken hok
  exact ⟨l, hl⟩

/-- A frame is opened in two steps (R162). -/
theorem steps_openFrame {s : State} {l : Level} {rest : List MicroOp} (hl : s.cfg.legal = true) (hh : s.halt = false)
    (hs : s.seq = .uDc l :: .uCs .low :: rest) : Steps 2 s { s with
      dc := .driven l, cs := .driven .low, trace := s.trace ++ [.dc l, .cs .low], seq := rest } := by
  refine (steps_perform hl hh hs rfl).trans (steps_perform hl hh rfl ?_)
  simp [perform, State.emit]

/-- A write that aborts is the last step (R233). -/
theorem step_of_abortsNow {s : State} {m : MicroOp} {rest : List MicroOp} (hl : s.cfg.legal = true)
    (hh : s.halt = false) (hs : s.seq = m :: rest) (hm : m.isWrite = true) (hr : m.inRange s.cfg)
    (ha : s.abortsNow = true) : step s = .next (s.drawnAbort.raise .transportAbort) := by
  obtain ⟨bytes, hx⟩ := perform_of_isWrite (s := { s with seq := rest }) hm hr
  rw [step_perform hl hh hs, hx, performWrite_of_abortsNow (s := { s with seq := rest }) ha]
  rfl

/-- Settles O51: the frame an abort leaves open is the one the write would have been made in. -/
theorem abortLeavesTheFrameOpen : Obligations.AbortLeavesTheFrameOpen := by
  unfold Obligations.AbortLeavesTheFrameOpen
  refine ⟨fun s m rest hl hh hseq hm hr hw ⟨_, hdc, hcs⟩ ha => ?_, fun s c ⟨hl, hi, hp⟩ ha => ?_⟩
  · obtain ⟨l, hopened⟩ := framing_of_write_pending hw hh hseq hm
    obtain ⟨front, htrace⟩ := framing_eq_opened hopened
    rw [htrace, List.foldl_append] at hdc hcs
    refine ⟨step_of_abortsNow hl hh hseq hm hr ha, hcs, ⟨front, l, hdc, htrace⟩, ?_⟩
    rw [State.openFrame, scanFrames, htrace, List.foldl_append, hdc]
    rfl
  · obtain ⟨hseq, hh⟩ := s.idle_iff.1 hi
    have hopened := steps_openFrame (s := s.take (.sendCommand c)) hl hh rfl
    refine ⟨_, _, exec_of_phase hi hp rfl, hopened.trans (steps_one.2
      (step_of_abortsNow (m := .uWrImm [c]) hl hh rfl rfl trivial ha)), ?_⟩
    simp [State.apartFromAnswers, State.raise, State.take, accepted, hseq]

/-- Settles O52: the first micro-operation of `INIT` is the last. -/
theorem setupFailureHaltsInit : Obligations.SetupFailureHaltsInit := by
  unfold Obligations.SetupFailureHaltsInit
  intro s ⟨hl, hi, hp⟩ hopen
  obtain ⟨hseq, hh⟩ := s.idle_iff.1 hi
  have hfails := performOpen_of_not_opensNow (s := { s.take .init with seq := opsInitOpened s.cfg }) hopen
  have hhalts := steps_perform (s := s.take .init) hl hh (opsInit_eq_cons s.cfg) (congrArg Host.Outcome.next hfails)
  refine ⟨_, _, exec_of_phase hi hp rfl, hhalts, ?_⟩
  simp [State.apartFromAnswers, State.raise, State.take, accepted, hseq]

end Sys2Proof.Machine

/-! PROOFS. What `uPACK` leaves in `BUF`, bit by bit, and `PACK` (spec/42_packing.md). -/

namespace Sys2Proof.Machine

/-! ## What `uPACK` writes -/

@[simp] theorem State.packImage_buf (s : State) :
    s.packImage.buf = packed s (orientation s.cfg s.imgwVal s.imghVal) := by rw [packImage_eq]

@[simp] theorem State.packImage_orient (s : State) :
    s.packImage.orient = .value (orientation s.cfg s.imgwVal s.imghVal) := by rw [packImage_eq]

/-- `uPACK` sets `DIM_MISMATCH` where there is no orientation, and changes no flag otherwise (R174). -/
theorem State.packImage_flags (s : State) : s.packImage.flags =
    if orientation s.cfg s.imgwVal s.imghVal = .none then { s.flags with dimMismatch := true } else s.flags := by
  rw [packImage_eq]
  split_ifs with h <;> simp [h]

/-- Settles O56: the tests of `uPACK` in their order. -/
theorem orientationChoice : Obligations.OrientationChoice := by
  unfold Obligations.OrientationChoice
  intro s w h hw hh
  have horient : orientation s.cfg s.imgwVal s.imghVal = orientation s.cfg w.toNat h.toNat := by
    rw [State.imgwVal, State.imghVal, hw, hh, Held.get, Held.get]
  rw [State.packImage_orient, State.packImage_flags, horient]
  refine ⟨fun ha => ?_, fun ha hr => ?_, fun ha hr => ?_⟩
  · simp [orientation, if_pos ha]
  · simp [orientation, if_neg ha, if_pos hr]
  · simp [orientation, if_neg ha, if_neg hr]

/-- Settles O47: `PACK` is the one micro-operation `uPACK`, which has no event. -/
theorem packEmitsNothing : Obligations.PackEmitsNothing := by
  unfold Obligations.PackEmitsNothing
  intro s w h ⟨hl, hi, hp⟩
  obtain ⟨hseq, hh⟩ := s.idle_iff.1 hi
  have hrun := steps_perform (s := s.take (.pack w h)) hl hh rfl rfl
  refine ⟨_, _, exec_of_phase hi hp rfl, ⟨⟨1, hrun⟩, ?_, ?_⟩, State.packImage_trace _, ?_, ?_⟩
  · simp [packImage_eq, State.take, State.idle, hh]
  · simp [packImage_eq, State.take]
  · simp only [packImage_eq, hseq, State.take]; rfl
  · simp [packImage_eq]

/-! ## The bits of a byte -/

/-- The mask of pixel `j` has one bit, bit `j` from the left (R14). -/
theorem getMsbD_pixelMask {i j : Nat} (hi : i < 8) (hj : j < 8) : (pixelMask j).getMsbD i = decide (i = j) := by
  have h : ∀ i < 8, ∀ j < 8, (pixelMask j).getMsbD i = decide (i = j) := by decide
  exact h i hi j hj

/-- A mask tests its bit. -/
theorem and_pixelMask_eq_zero_iff {b : Byte} {i : Nat} (hi : i < 8) :
    b &&& pixelMask i = 0 ↔ ¬ b.getMsbD i = true := by
  refine ⟨fun h hb => ?_, fun h => BitVec.eq_of_getMsbD_eq fun j hj => ?_⟩
  · simpa [getMsbD_pixelMask hi hi, hb] using congrArg (BitVec.getMsbD · i) h
  · rw [BitVec.getMsbD_and, getMsbD_pixelMask hj hi]
    rcases eq_or_ne j i with rfl | hne
    · simp [Bool.eq_false_of_not_eq_true h]
    · simp [hne]

/-- Clearing with a mask clears its bit and leaves the others (R173). -/
theorem getMsbD_and_not_pixelMask {b : Byte} {i j : Nat} (hi : i < 8) (hj : j < 8) :
    (b &&& ~~~(pixelMask j)).getMsbD i = true ↔ b.getMsbD i = true ∧ i ≠ j := by
  simp [getMsbD_pixelMask hi hj, hi]

/-! ## The bits of the buffer -/

/-- The buffer is the bytes `0 .. n-1`, and its bits that are 0 are those numbered in `S` (R61). -/
structure Memory.Cleared (n : Nat) (S : Set Nat) (m : Memory) : Prop where
  listed   : ∀ a < n, ∃ b, Memory.read m a = some b ∧ ∀ i < 8, (b.getMsbD i = true ↔ 8 * a + i ∉ S)
  unlisted : ∀ a, n ≤ a → Memory.read m a = none

/-- The numbers of the zero bits say what every address holds. -/
theorem Memory.Cleared.read_eq {n : Nat} {S : Set Nat} {m m' : Memory} (h : Memory.Cleared n S m)
    (h' : Memory.Cleared n S m') (a : Nat) : Memory.read m a = Memory.read m' a := by
  rcases Nat.lt_or_ge a n with ha | ha
  · obtain ⟨b, hb, hbits⟩ := h.listed a ha
    obtain ⟨b', hb', hbits'⟩ := h'.listed a ha
    rw [hb, hb']
    exact congrArg some (BitVec.eq_of_getMsbD_eq fun i hi => Bool.eq_iff_iff.2 ((hbits i hi).trans (hbits' i hi).symm))
  · rw [h.unlisted a ha, h'.unlisted a ha]

/-- Bit `k` of the buffer, as its mask tests it (R61). -/
theorem Memory.Cleared.bit {n : Nat} {S : Set Nat} {m : Memory} (h : Memory.Cleared n S m) {k : Nat} (hk : k / 8 < n) :
    ∃ b, Memory.read m (k / 8) = some b ∧ (b &&& pixelMask (k % 8) = 0 ↔ k ∈ S) := by
  obtain ⟨b, hb, hbits⟩ := h.listed _ hk
  have hi : k % 8 < 8 := Nat.mod_lt _ (by decide)
  exact ⟨b, hb, by rw [and_pixelMask_eq_zero_iff hi, hbits _ hi, Nat.div_add_mod, not_not]⟩

/-- A buffer that is all `0xFF` has no zero bit. -/
theorem Memory.cleared_filled (n : Nat) : Memory.Cleared n ∅ (Memory.filled n 0xFF) where
  listed a ha := by
    have hones : ∀ i < 8, (0xFF : Byte).getMsbD i = true := by decide
    exact ⟨0xFF, by simp [Memory.read_filled, ha], fun i hi => iff_of_true (hones i hi) (Set.notMem_empty _)⟩
  unlisted a ha := by simp [Memory.read_filled, ha]

/-- Clearing bit `k` (R173). -/
theorem Memory.Cleared.clearBit {n : Nat} {S : Set Nat} {m : Memory} (h : Memory.Cleared n S m) {k : Nat}
    (hk : k / 8 < n) : Memory.Cleared n (S ∪ {k}) (clearBit m k) where
  listed a ha := by
    obtain ⟨b, hb, hbits⟩ := h.listed a ha
    rcases eq_or_ne a (k / 8) with rfl | hne
    · refine ⟨b &&& ~~~(pixelMask (k % 8)), by simp [Machine.clearBit, hb], fun i hi => ?_⟩
      rw [getMsbD_and_not_pixelMask hi (Nat.mod_lt _ (by decide)), hbits i hi, Set.mem_union, not_or,
        Set.mem_singleton_iff]
      exact and_congr_right fun _ => by omega
    · refine ⟨b, (Memory.read_write_other _ hne).trans hb, fun i hi => ?_⟩
      rw [hbits i hi, Set.mem_union, Set.mem_singleton_iff, or_iff_left (by omega)]
  unlisted a ha := (Memory.read_write_other _ (by omega)).trans (h.unlisted a ha)

/-- A loop whose turn `x` clears the bits `T x` clears the bits of all its turns. -/
theorem Memory.Cleared.foldl {α : Type} {n : Nat} {f : Memory → α → Memory} {T : α → Set Nat} {l : List α}
    (hf : ∀ x ∈ l, ∀ S m, Memory.Cleared n S m → Memory.Cleared n (S ∪ T x) (f m x)) {S : Set Nat} {m : Memory}
    (h : Memory.Cleared n S m) : Memory.Cleared n (S ∪ ⋃ x ∈ l, T x) (l.foldl f m) := by
  induction l generalizing S m with
  | nil => simpa using h
  | cons x l ih =>
    have hrest := ih (fun y hy => hf y (List.mem_cons_of_mem _ hy)) (hf x List.mem_cons_self S m h)
    simpa [Set.iUnion_or, Set.iUnion_union_distrib, Set.union_assoc] using hrest

/-! ## The bits of the image -/

/-- The bit of source pixel `(x, y)`, where that pixel is black (R173). -/
def blackBit (s : State) (o : Orient) (x y : Nat) : Set Nat :=
  {k | s.luma x y = 0 ∧ k = pixelBit s.cfg (panelPixel s.cfg o x y)}

/-- The bits of the image's black pixels (R173). -/
def blackBits (s : State) (o : Orient) : Set Nat :=
  ⋃ y ∈ List.range s.imghVal, ⋃ x ∈ List.range s.imgwVal, blackBit s o x y

theorem mem_blackBits {s : State} {o : Orient} {k : Nat} : k ∈ blackBits s o ↔
    ∃ y < s.imghVal, ∃ x < s.imgwVal, s.luma x y = 0 ∧ k = pixelBit s.cfg (panelPixel s.cfg o x y) := by
  simp only [blackBits, blackBit, Set.mem_iUnion, List.mem_range, exists_prop, Set.mem_ofPred_eq]

/-- One turn of the pixel loop (R173). -/
theorem Memory.Cleared.packPixel {n : Nat} {S : Set Nat} {m : Memory} (h : Memory.Cleared n S m) {s : State}
    {o : Orient} {x y : Nat} (hk : pixelBit s.cfg (panelPixel s.cfg o x y) / 8 < n) :
    Memory.Cleared n (S ∪ blackBit s o x y) (packPixel s o y m x) := by
  unfold Machine.packPixel
  split_ifs with hb
  · have hbit : blackBit s o x y = {pixelBit s.cfg (panelPixel s.cfg o x y)} := Set.ext fun _ => and_iff_right hb
    exact hbit ▸ h.clearBit hk
  · have hbit : blackBit s o x y = ∅ := Set.eq_empty_of_forall_notMem fun _ hk => hb hk.1
    rwa [hbit, Set.union_empty]

/-- Where there is an orientation, `uPACK` leaves 0 in the bits of the black pixels and 1 in all others (R173). -/
theorem cleared_packed {s : State} (hl : s.cfg.legal = true) (ho : orientation s.cfg s.imgwVal s.imghVal ≠ .none) :
    Memory.Cleared s.cfg.buflen (blackBits s (orientation s.cfg s.imgwVal s.imghVal))
      (packed s (orientation s.cfg s.imgwVal s.imghVal)) := by
  have hpanel := fun x y hx hy => panelPixel_lt (x := x) (y := y) ho hx hy
  generalize orientation s.cfg s.imgwVal s.imghVal = o at ho hpanel ⊢
  have hrows : Memory.Cleared s.cfg.buflen (∅ ∪ blackBits s o)
      ((List.range s.imghVal).foldl (packRow s o) (Memory.filled s.cfg.buflen 0xFF)) :=
    (Memory.cleared_filled s.cfg.buflen).foldl fun y hy S m hm => hm.foldl fun x hx S m hm => by
      obtain ⟨hpx, hpy⟩ := hpanel x y (List.mem_range.1 hx) (List.mem_range.1 hy)
      exact hm.packPixel (pixelBit_div_lt_buflen hl hpx hpy)
  rw [Set.empty_union] at hrows
  cases o with
  | none => exact absurd rfl ho
  | aligned => exact hrows
  | rotated => exact hrows

/-- An image with no orientation or without a black pixel leaves the buffer all `0xFF` (R174, R177). -/
theorem packed_eq_filled {s : State} {o : Orient} (h : o = .none ∨ s.AllWhite) :
    packed s o = Memory.filled s.cfg.buflen 0xFF :=
  packed_induction (P := (· = Memory.filled s.cfg.buflen 0xFF)) rfl fun x y m ho hx hy hm => by
    rw [packPixel, if_neg (h.resolve_left ho x y hx hy), hm]

/-- Settles O57: no bit is cleared. -/
theorem whiteImagesPackToAllOnes : Obligations.WhiteImagesPackToAllOnes := by
  unfold Obligations.WhiteImagesPackToAllOnes
  intro s _ h a
  rw [State.packImage_orient, Held.value.injEq] at h
  rw [State.packImage_buf, packed_eq_filled h, Memory.read_filled]

/-! ## Source pixels and panel pixels (R175) -/

/-- The pixels of one panel have different bits (R61). -/
theorem pixelBit_inj {c : Config} {p q : Nat × Nat} (hp : p.1 < c.width) (hq : q.1 < c.width) :
    pixelBit c p = pixelBit c q ↔ p = q := by
  refine ⟨fun h => ?_, congrArg _⟩
  have hx := congrArg (· % c.width) h
  have hy := congrArg (· / c.width) h
  simp only [pixelBit, Nat.add_mul_mod_self_right, Nat.mod_eq_of_lt hp, Nat.mod_eq_of_lt hq] at hx
  simp only [pixelBit, Nat.add_mul_div_right _ _ (Nat.zero_lt_of_lt hp), Nat.div_eq_of_lt hp, Nat.div_eq_of_lt hq,
    Nat.zero_add] at hy
  exact Prod.ext hx hy

section Orientation

variable {c : Config} {w h : Nat} (ho : orientation c w h ≠ .none) {p : Nat × Nat} (hpy : p.2 < c.height)
include ho hpy

/-- The source pixel of a panel pixel lies in the image (R175). -/
theorem sourcePixel_lt (hpx : p.1 < c.width) :
    (sourcePixel c (orientation c w h) p).1 < w ∧ (sourcePixel c (orientation c w h) p).2 < h := by
  unfold orientation at ho ⊢
  split_ifs at ho ⊢ with ha hr
  · exact ⟨ha.1 ▸ hpx, ha.2 ▸ hpy⟩
  · exact ⟨by simp only [sourcePixel]; omega, hr.2 ▸ hpx⟩
  · exact absurd rfl ho

/-- The two maps between source and panel pixels are inverse to each other (R175). -/
theorem panelPixel_eq_iff {x y : Nat} (hx : x < w) :
    panelPixel c (orientation c w h) x y = p ↔ sourcePixel c (orientation c w h) p = (x, y) := by
  unfold orientation at ho ⊢
  split_ifs at ho ⊢ with ha hr
  · exact eq_comm
  · simp only [panelPixel, sourcePixel, Prod.ext_iff]
    omega
  · exact absurd rfl ho

end Orientation

/-- The bit of a panel pixel is that of a black pixel exactly when its source pixel is black (R175). -/
theorem pixelBit_mem_blackBits {s : State} {p : Nat × Nat} (ho : orientation s.cfg s.imgwVal s.imghVal ≠ .none)
    (hpx : p.1 < s.cfg.width) (hpy : p.2 < s.cfg.height) :
    pixelBit s.cfg p ∈ blackBits s (orientation s.cfg s.imgwVal s.imghVal) ↔
      s.luma (sourcePixel s.cfg (orientation s.cfg s.imgwVal s.imghVal) p).1
        (sourcePixel s.cfg (orientation s.cfg s.imgwVal s.imghVal) p).2 = 0 := by
  rw [mem_blackBits]
  constructor
  · rintro ⟨y, hy, x, hx, hb, hbit⟩
    rw [eq_comm, pixelBit_inj (panelPixel_lt ho hx hy).1 hpx, panelPixel_eq_iff ho hpy hx] at hbit
    rwa [hbit]
  · intro hb
    obtain ⟨hx, hy⟩ := sourcePixel_lt ho hpy hpx
    exact ⟨_, hy, _, hx, hb, (congrArg _ ((panelPixel_eq_iff ho hpy hx).2 rfl)).symm⟩

/-- Settles O55: a bit is cleared by its source pixel alone. -/
theorem packedBitsAreTheSourcePixels : Obligations.PackedBitsAreTheSourcePixels := by
  unfold Obligations.PackedBitsAreTheSourcePixels
  intro s o hl horient ho
  obtain rfl : orientation s.cfg s.imgwVal s.imghVal = o := by simpa using horient
  refine ⟨fun px py hpx hpy => ?_, fun px py hpx hpy => sourcePixel_lt ho hpy hpx, fun x y hx hy => ?_⟩
  · rw [State.packImage_buf, ← pixelBit_mem_blackBits ho hpx hpy]
    exact (cleared_packed hl ho).bit (pixelBit_div_lt_buflen (p := (px, py)) hl hpx hpy)
  · obtain ⟨hpx, hpy⟩ := panelPixel_lt ho hx hy
    exact ⟨_, ⟨hpx, hpy, (panelPixel_eq_iff ho hpy hx).1 rfl⟩,
      fun p ⟨_, hqy, hq⟩ => ((panelPixel_eq_iff ho hqy hx).2 hq).symm⟩

/-- The image of an aligned orientation has the panel's size (R171). -/
theorem size_of_orientation_aligned {c : Config} {w h : Nat} (ho : orientation c w h = .aligned) :
    w = c.width ∧ h = c.height := by
  unfold orientation at ho
  split_ifs at ho with ha
  exact ha

/-- The bit of the only black pixel of an aligned image (R177). -/
theorem blackBits_eq_singleton {s : State} {x y : Nat} (ho : orientation s.cfg s.imgwVal s.imghVal = .aligned)
    (hx : x < s.cfg.width) (hy : y < s.cfg.height)
    (hb : ∀ i j, i < s.cfg.width → j < s.cfg.height → (s.luma i j = 0 ↔ i = x ∧ j = y)) :
    blackBits s .aligned = {pixelBit s.cfg (x, y)} := by
  obtain ⟨hw, hh⟩ := size_of_orientation_aligned ho
  ext k
  rw [mem_blackBits, hw, hh, Set.mem_singleton_iff]
  constructor
  · rintro ⟨j, hj, i, hi, hzero, rfl⟩
    obtain ⟨rfl, rfl⟩ := (hb i j hi hj).1 hzero
    rfl
  · rintro rfl
    exact ⟨y, hy, x, hx, (hb x y hx hy).2 ⟨rfl, rfl⟩, rfl⟩

/-- A pixel's place in its byte does not depend on its row, as a row is whole bytes (R61). -/
theorem pixelBit_mod_eight {c : Config} (hl : c.legal = true) (x y : Nat) : pixelBit c (x, y) % 8 = x % 8 := by
  obtain ⟨hw, -⟩ := Config.legal_geometry hl
  rw [pixelBit, hw, Nat.mul_left_comm, Nat.add_mul_mod_self_left]

/-- Settles O58: the buffer is the one in which that bit alone has been cleared. -/
theorem oneBlackPixelClearsOneBit : Obligations.OneBlackPixelClearsOneBit := by
  unfold Obligations.OneBlackPixelClearsOneBit
  intro s x y hl horient hx hy hb a
  have ho : orientation s.cfg s.imgwVal s.imghVal = .aligned := by simpa using horient
  have hk := pixelBit_div_lt_buflen (p := (x, y)) hl hx hy
  have hpacked := cleared_packed hl (ho.trans_ne (by decide))
  rw [ho, blackBits_eq_singleton ho hx hy hb, ← Set.empty_union {_}] at hpacked
  rw [State.packImage_buf, ho, hpacked.read_eq ((Memory.cleared_filled _).clearBit hk), ← pixelBit_mod_eight hl x y]
  change _ = if a = pixelBit s.cfg (x, y) / 8 then _ else _
  split_ifs with ha hlt
  · simp [clearBit, ha, Memory.read_filled, hk]
  · rw [clearBit, Memory.read_write_other _ ha, Memory.read_filled, if_pos hlt]
  · rw [clearBit, Memory.read_write_other _ ha, Memory.read_filled, if_neg hlt]

end Sys2Proof.Machine

/-! PROOFS. The wait at the end of an operation (spec/44_display_clear_busy.md R201, R202): which answers of the busy
line it meets, and what it leaves. -/

namespace Sys2Proof.Machine

/-! ## The busy reads of the trace are the answers drawn (R20, R201) -/

/-- From `s` to `t` the events `es` happen, and each busy read among them has used up one answer of the busy line. -/
def Samples (es : List Event) (s t : State) : Prop :=
  t.trace = s.trace ++ es ∧ t.busyAns.script = s.busyAns.script.drop (es.countP isBusyRead)

theorem Samples.trans {es fs : List Event} {s t u : State} (h : Samples es s t) (k : Samples fs t u) :
    Samples (es ++ fs) s u := by
  obtain ⟨htrace, hscript⟩ := h
  obtain ⟨ktrace, kscript⟩ := k
  exact ⟨by rw [ktrace, htrace, List.append_assoc], by rw [kscript, hscript, List.drop_drop, List.countP_append]⟩

/-- Nothing has happened. -/
theorem samples_nil {s t : State} (htrace : t.trace = s.trace) (hbusy : t.busyAns = s.busyAns) : Samples [] s t :=
  ⟨htrace.trans (List.append_nil _).symm, congrArg Answers.script hbusy⟩

/-- A write asks nothing of the busy line. -/
theorem performWrite_samples (bytes : List Byte) (s : State) : ∃ es, Samples es s (performWrite bytes s) := by
  rcases performWrite_cases bytes s with ⟨-, h⟩ | ⟨-, h⟩ <;> rw [h]
  · exact ⟨[.wr bytes], rfl, rfl⟩
  · exact ⟨[], samples_nil rfl rfl⟩

/-- Only `uPOLL` draws an answer of the busy line, and it records it (R201). -/
theorem perform_samples {m : MicroOp} {s t : State} (h : perform m s = .next t) : ∃ es, Samples es s t := by
  cases m
  case uOpen =>
    cases h
    rcases performOpen_cases s with ⟨-, h⟩ | ⟨-, h⟩ <;> rw [h] <;> exact ⟨[.open _], rfl, rfl⟩
  case uWrImm => cases h; exact performWrite_samples _ s
  case uWrFill => cases h; exact performWrite_samples _ s
  case uWrRow => obtain ⟨-, rfl⟩ := performWriteFrom_next h; exact performWrite_samples _ s
  case uWrPay => obtain ⟨-, rfl⟩ := performWriteFrom_next h; exact performWrite_samples _ s
  case uPoll =>
    cases h
    rcases performPoll_cases s with ⟨-, h⟩ | ⟨-, -, h⟩ | ⟨-, -, h⟩ <;> rw [h] <;>
      exact ⟨[.busy _], rfl, List.drop_one.symm⟩
  case uPack => cases h; rw [packImage_eq]; exact ⟨[], samples_nil rfl rfl⟩
  case uPhase | uSetWin | uSetCur => cases h; exact ⟨[], samples_nil rfl rfl⟩
  all_goals cases h; exact ⟨[_], rfl, rfl⟩

/-- No other step draws one. -/
theorem step_samples {s t : State} (h : step s = .next t) : ∃ es, Samples es s t := by
  cases (step_stepTo h).2 with
  | performed hs hp =>
    obtain ⟨es, hes⟩ := perform_samples hp
    exact ⟨es, hes⟩
  | waited => exact ⟨[], samples_nil rfl rfl⟩
  | flagged => exact ⟨[], samples_nil rfl rfl⟩
  | taken => exact ⟨[], samples_nil rfl rfl⟩
  | wrotePay => exact ⟨[], samples_nil rfl rfl⟩
  | wroteImg => exact ⟨[], samples_nil rfl rfl⟩

/-- So in a run the answers drawn are the busy reads recorded. -/
theorem Steps.samples {n : Nat} {s t : State} (h : Steps n s t) : ∃ es, Samples es s t :=
  h.keeps (P := fun u => ∃ es, Samples es s u)
    (fun _ _ ⟨_, hes⟩ hstep => (step_samples hstep).imp' _ fun _ hfs => hes.trans hfs)
    ⟨[], samples_nil rfl rfl⟩

/-! ## A quiet run that does not poll -/

/-- Only `uPOLL` reads the busy line or writes `POLLS` (R201). -/
theorem State.quietly_unpolled {m : MicroOp} (hm : m ≠ .uPoll) (s : State) : (s.quietly m).polls = s.polls ∧
    (s.quietly m).trace.countP isBusyRead = s.trace.countP isBusyRead := by
  cases m
  case uPoll => exact absurd rfl hm
  case uPack => simp [State.quietly, packImage_eq]
  all_goals simp [State.quietly, isBusyRead]

theorem foldl_quietly_unpolled {ops : List MicroOp} (h : .uPoll ∉ ops) (s : State) :
    (ops.foldl State.quietly s).polls = s.polls ∧
      (ops.foldl State.quietly s).trace.countP isBusyRead = s.trace.countP isBusyRead := by
  induction ops generalizing s with
  | nil => exact ⟨rfl, rfl⟩
  | cons m ops ih =>
    obtain ⟨hm, hops⟩ := not_or.1 (mt List.mem_cons.2 h)
    obtain ⟨hpolls, hcount⟩ := s.quietly_unpolled (Ne.symm hm)
    obtain ⟨ipolls, icount⟩ := ih hops (s.quietly m)
    exact ⟨ipolls.trans hpolls, icount.trans hcount⟩

/-- What a quiet run leaves does not depend on the micro-operations after it. -/
theorem foldl_quietly_withSeq (ops rest : List MicroOp) (s : State) :
    ops.foldl State.quietly { s with seq := rest } = { ops.foldl State.quietly s with seq := rest } := by
  induction ops generalizing s with
  | nil => rfl
  | cons m ops ih => rw [List.foldl_cons, State.quietly_withSeq, ih, List.foldl_cons]

/-- Micro-operations that do not poll leave the answers of the busy line to those after them. -/
theorem steps_quietly_unpolled {ops rest : List MicroOp} {s : State} (hs : s.seq = ops ++ rest) (h : s.Calm ops)
    (hp : .uPoll ∉ ops) : ∃ n t, Steps n s t ∧ t.busyAns.script = s.busyAns.script ∧
      t.apartFromAnswers = ops.foldl State.quietly { s.apartFromAnswers with seq := rest } := by
  obtain ⟨n, t, hn, ht⟩ := steps_quietly hs h
  obtain ⟨es, htrace, hscript⟩ := hn.samples
  have hcount : t.trace.countP isBusyRead = s.trace.countP isBusyRead :=
    (congrArg (fun u : State => u.trace.countP isBusyRead) ht).trans (foldl_quietly_unpolled hp _).2
  have hnone : es.countP isBusyRead = 0 := by
    rw [htrace, List.countP_append] at hcount
    omega
  exact ⟨n, t, hn, by rw [hscript, hnone, List.drop_zero], ht⟩

/-! ## A wait that ends (R201, R202) -/

/-- The state after a wait with `k` busy answers (R202). -/
def State.waited (k : Nat) (s : State) : State :=
  { s with polls := 0, trace := s.trace ++ waitEvents s.cfg k }

theorem waitEvents_succ (c : Config) (k : Nat) :
    waitEvents c (k + 1) = [.busy .high, .sleep c.tPoll] ++ waitEvents c k := by
  simp [waitEvents, List.replicate_succ]

/-- No timeout is reached by fewer busy answers than it allows (R201). -/
theorem State.Patient.not_timedOut {k n : Nat} {s : State} (h : s.Patient k) (hn : n ≤ k) :
    timedOut s.cfg n = false := by
  unfold timedOut
  split
  · rfl
  · next limit hlimit => exact decide_eq_false (Nat.not_le.2 (hn.trans_lt (h limit hlimit)))

/-- A busy answer within the timeout: the sample, the sleep, and the poll is next again (R201). -/
theorem steps_poll_busy {s : State} {rest : List MicroOp} (hl : s.cfg.legal = true) (hh : s.halt = false)
    (hs : s.seq = .uPoll :: rest) (hbusy : s.busyNow = true) (htime : timedOut s.cfg (s.polls + 1) = false) :
    Steps 2 s { s.drawnBusy with
      polls := s.polls + 1, trace := s.trace ++ [.busy .high, .sleep s.cfg.tPoll] } := by
  have hpoll : perform .uPoll { s with seq := rest } = .next (State.emit (.busy .high)
      { s.drawnBusy with polls := s.polls + 1, seq := .uSleep s.cfg.tPoll :: .uPoll :: rest }) := by
    simp only [perform, performPoll, State.busyNow] at hbusy ⊢
    simp [hbusy, htime, State.emit, State.drawnBusy]
  refine (steps_perform hl hh hs hpoll).trans (steps_perform hl hh rfl ?_)
  simp [perform, State.emit, State.drawnBusy, hs]

/-- An idle answer ends the wait (R201). -/
theorem steps_poll_idle {s : State} {rest : List MicroOp} (hl : s.cfg.legal = true) (hh : s.halt = false)
    (hs : s.seq = .uPoll :: rest) (hbusy : s.busyNow = false) :
    Steps 1 s { s.drawnBusy with polls := 0, seq := rest, trace := s.trace ++ [.busy .low] } := by
  refine steps_perform hl hh hs ?_
  simp only [perform, performPoll, State.busyNow] at hbusy ⊢
  simp [hbusy, State.emit, State.drawnBusy]

/-- A wait in which the busy line reads 1 `k` times and then 0, within the timeout. -/
theorem steps_wait {s : State} {k : Nat} {rest : List MicroOp} (hl : s.cfg.legal = true) (hh : s.halt = false)
    (hs : s.seq = .uPoll :: rest) (hbusy : s.BusyTimes k) (hpatient : s.Patient (s.polls + k)) :
    ∃ n t, Steps n s t ∧ t.apartFromAnswers = State.waited k { s.apartFromAnswers with seq := rest } := by
  induction k generalizing s with
  | zero =>
    obtain ⟨r, hr⟩ := hbusy
    exact ⟨1, _, steps_poll_idle hl hh hs (Answers.now_cons hr _), rfl⟩
  | succ k ih =>
    obtain ⟨r, hr⟩ := hbusy
    have hround := steps_poll_busy hl hh hs (Answers.now_cons hr _) (hpatient.not_timedOut (by omega))
    obtain ⟨n, t, hn, ht⟩ := ih (s := { s.drawnBusy with
        polls := s.polls + 1, trace := s.trace ++ [.busy .high, .sleep s.cfg.tPoll] }) hl hh hs
      ⟨r, congrArg List.tail hr⟩ fun limit hlimit => by
        have := hpatient limit hlimit
        simp only
        omega
    refine ⟨2 + n, t, hround.trans hn, ht.trans ?_⟩
    simp [State.waited, waitEvents_succ, State.apartFromAnswers, State.drawnBusy]

/-- Micro-operations whose last is a poll, and no other, complete: those before it send their events, and the wait
follows. -/
theorem completes_waiting {s : State} {ops : List MicroOp} {k : Nat} (hs : s.seq = ops ++ [.uPoll])
    (hcalm : s.Calm ops) (hunpolled : .uPoll ∉ ops) (hbusy : s.BusyTimes k) (hpatient : s.Patient (s.polls + k)) :
    ∃ t, Completes s t ∧
      t.apartFromAnswers = State.waited k (ops.foldl State.quietly { s.apartFromAnswers with seq := [] }) := by
  obtain ⟨m, u, hm, hscript, hu⟩ := steps_quietly_unpolled hs hcalm hunpolled
  rw [foldl_quietly_withSeq] at hu
  rw [foldl_quietly_withSeq]
  obtain ⟨hhalt, -, hhost⟩ := foldl_quietly_kept ops s.apartFromAnswers
  obtain ⟨-, -, hcfg⟩ := foldl_quietly_phase_img ops s.apartFromAnswers
  obtain ⟨hpolls, -⟩ := foldl_quietly_unpolled hunpolled s.apartFromAnswers
  generalize ops.foldl State.quietly s.apartFromAnswers = r at *
  have hucfg : u.cfg = s.cfg := (congrArg State.cfg hu).trans hcfg
  have hupolls : u.polls = s.polls := (congrArg State.polls hu).trans hpolls
  have hrunning : r.halt = false := hhalt.trans hcalm.running
  obtain ⟨n, t, hn, ht⟩ := steps_wait (s := u) (k := k) (rest := []) (hucfg ▸ hcalm.legal)
    ((congrArg State.halt hu).trans hrunning) (congrArg State.seq hu)
    (hbusy.imp fun _ hr => hscript.trans hr) (by rw [State.Patient, hucfg, hupolls]; exact hpatient)
  rw [hu] at ht
  exact ⟨t, ⟨⟨_, hm.trans hn⟩, t.idle_iff.2 ⟨congrArg State.seq ht, (congrArg State.halt ht).trans hrunning⟩,
    (congrArg State.host ht).trans hhost⟩, ht⟩

/-- An operation whose last micro-operation is a poll, and no other, is accepted and completes with the wait. -/
theorem waiting_operation_completes {s : State} {i : Instr} {ops : List MicroOp} {k : Nat} (hi : s.idle = true)
    (hp : s.phase = phaseNeeded i) (hturn : turnedAway s i = none) (hpolls : (accepted s i).polls = 0)
    (hops : expansion s.cfg i = ops ++ [.uPoll]) (hunpolled : .uPoll ∉ ops) (hcalm : s.Calm ops)
    (hbusy : s.BusyTimes k) (hpatient : s.Patient k) :
    ∃ a t, exec i s = .next a ∧ Completes a t ∧
      t.apartFromAnswers = State.waited k (ops.foldl State.quietly (s.begun i s.host)) := by
  have hpatient' : (s.take i).Patient ((accepted s i).polls + k) := by rwa [hpolls, Nat.zero_add]
  obtain ⟨t, hc, ht⟩ := completes_waiting (s := s.take i) hops
    ⟨hcalm.legal, hcalm.running, hcalm.smooth, hcalm.writes, hcalm.polls⟩ hunpolled hbusy hpatient'
  exact ⟨_, t, exec_of_phase hi hp hturn, hc, ht⟩

end Sys2Proof.Machine

/-! PROOFS. `SET_WINDOW` and `SET_CURSOR` (spec/43_window_cursor.md). -/

namespace Sys2Proof.Machine

/-! ## `SET_WINDOW` (R187) -/

/-- `SET_WINDOW` does not poll. -/
theorem uPoll_notMem_opsSetWindow (c : Config) (xs ys xe ye : Half) : .uPoll ∉ opsSetWindow c xs ys xe ye := by
  simp [opsSetWindow, opsSetRamXRange, opsSetRamYRange]

/-- Settles O42: two panel commands and nothing to wait for. -/
theorem setWindowTrace : Obligations.SetWindowTrace := by
  unfold Obligations.SetWindowTrace
  intro s xs ys xe ye ⟨hl, hi, hp⟩ ha
  obtain ⟨-, hhalt⟩ := s.idle_iff.1 hi
  have hcalm : s.Calm (opsSetWindow s.cfg xs ys xe ye) :=
    { legal := hl, running := hhalt, smooth := smooth_opsSetWindow _ _ _ _ _ _, writes := fun _ _ _ => ha,
      polls := fun hm => absurd hm (uPoll_notMem_opsSetWindow _ _ _ _ _) }
  obtain ⟨a, t, hx, hc, ht⟩ := operation_completes (i := .setWindow xs ys xe ye) hi hp rfl hcalm
  refine ⟨a, t, hx, hc, ht.trans ?_⟩
  rw [State.ran, State.begun_of_idle hi, expansion, foldl_opsSetWindow]
  rfl

/-! ## `SET_CURSOR` (R190) -/

/-- `SET_CURSOR` before its poll. -/
def opsPlaceCursor (c : Config) (x y : Half) : List MicroOp :=
  .uSetCur x y :: (opsSetRamXCounter (col x) c ++ opsSetRamYCounter y c)

theorem opsSetCursor_eq_append (c : Config) (x y : Half) : opsSetCursor c x y = opsPlaceCursor c x y ++ [.uPoll] := rfl

theorem uPoll_notMem_opsPlaceCursor (c : Config) (x y : Half) : .uPoll ∉ opsPlaceCursor c x y := by
  simp [opsPlaceCursor, opsSetRamXCounter, opsSetRamYCounter]

theorem foldl_opsPlaceCursor (c : Config) (x y : Half) (s : State) :
    (opsPlaceCursor c x y).foldl State.quietly s =
      State.sent .high (cursorEvents c x y) { s with cx := .value x, cy := .value y } := by
  simp [opsPlaceCursor, opsSetRamXCounter, opsSetRamYCounter, payloadSetRamXCounter, payloadSetRamYCounter,
    cursorEvents]

/-- Settles O43: two panel commands, then the wait. -/
theorem setCursorTrace : Obligations.SetCursorTrace := by
  unfold Obligations.SetCursorTrace
  intro s x y k ⟨hl, hi, hp⟩ ha hbusy hpatient
  obtain ⟨-, hhalt⟩ := s.idle_iff.1 hi
  have hsmooth : Smooth s.cfg (opsPlaceCursor s.cfg x y) :=
    ((smooth_append ..).1 (smooth_opsSetCursor s.cfg s.cfg x y)).1
  have hcalm : s.Calm (opsPlaceCursor s.cfg x y) :=
    { legal := hl, running := hhalt, smooth := hsmooth, writes := fun _ _ _ => ha,
      polls := fun hm => absurd hm (uPoll_notMem_opsPlaceCursor _ _ _) }
  obtain ⟨a, t, hx, hc, ht⟩ := waiting_operation_completes (i := .setCursor x y) hi hp rfl rfl
    (opsSetCursor_eq_append ..) (uPoll_notMem_opsPlaceCursor _ _ _) hcalm hbusy hpatient
  refine ⟨a, t, hx, hc, ht.trans ?_⟩
  rw [State.begun_of_idle hi, foldl_opsPlaceCursor]
  rfl

/-! ## The column of an x operand (R69, R191) -/

/-- The column byte is the operand's quotient by 8, of which `col` keeps the low eight bits. -/
theorem col_toNat (x : Half) : (col x).toNat = x.toNat / 8 % 256 := by
  simp [col, Nat.shiftRight_eq_div_pow]

theorem col_congr {x x' : Half} (h : x >>> 3 = x' >>> 3) : col x = col x' := congrArg (BitVec.setWidth 8) h

/-- Settles O54: everything but the head micro-operation sees an x operand through `col`. -/
theorem unalignedXIsTruncated : Obligations.UnalignedXIsTruncated := by
  unfold Obligations.UnalignedXIsTruncated
  intro c x x' z z' y y' hx hz
  have hcol : col x = col x' := col_congr hx
  have hcol' : col z = col z' := col_congr hz
  refine ⟨?_, ?_, ?_, rfl, ?_, rfl, col_toNat x⟩
  · rw [cursorEvents, hcol, cursorEvents]
  · rw [windowEvents, hcol, hcol', windowEvents]
  · rw [opsSetCursor, hcol, opsSetCursor, List.tail_cons, List.tail_cons]
  · rw [opsSetWindow, hcol, hcol', opsSetWindow, List.tail_cons, List.tail_cons]

end Sys2Proof.Machine

/-! PROOFS. The busy poll and the operations that wait (spec/44_display_clear_busy.md R201 to R209), and `DISPLAY` of no
image (R217). -/

namespace Sys2Proof.Machine

/-! ## `DISPLAY` of no image (R217) -/

/-- Settles O12: `DISPLAY` of no image is turned away with the flag alone. -/
theorem nullDisplayEmitsNothing : Obligations.NullDisplayEmitsNothing := by
  unfold Obligations.NullDisplayEmitsNothing
  intro s w h hi hp
  have hturned : exec (.display w h false) s = .next (s.setFlag .nullImage) := by
    rw [exec_of_idle hi]
    exact congrArg _ (if_pos hp)
  exact ⟨_, hturned, rfl, hi, rfl⟩

/-! ## The poll rule (R201) -/

/-- When `n` consecutive busy answers reach the timeout. -/
theorem timedOut_iff (c : Config) (n : Nat) :
    timedOut c n = true ↔ ∃ limit, c.busyTimeoutPolls = some limit ∧ limit ≤ n := by
  unfold timedOut
  split
  · next h => simp [h]
  · next limit h => simp [h]

theorem timedOut_eq_false_iff (c : Config) (n : Nat) :
    timedOut c n = false ↔ ∀ limit, c.busyTimeoutPolls = some limit → n < limit := by
  rw [← Bool.not_eq_true, timedOut_iff]
  push Not
  rfl

/-- Settles O19: the three cases of `uPOLL`. -/
theorem pollRule : Obligations.PollRule := by
  unfold Obligations.PollRule
  intro s
  simp only [← timedOut_iff, ← timedOut_eq_false_iff]
  obtain ⟨hb, he⟩ | ⟨hb, hn, he⟩ | ⟨hb, hn, he⟩ := performPoll_cases s
  · simp [hb, perform, he]
  · simp [hb, hn, perform, he]
  · simp [hb, hn, perform, he, State.raise]

/-! ## A busy line that stays busy (R203, R234) -/

/-- The events of `n` busy answers, each with its sleep (R201). -/
def busyRounds (c : Config) (n : Nat) : List Event := (List.replicate n [Event.busy .high, .sleep c.tPoll]).flatten

theorem busyRounds_succ (c : Config) (n : Nat) :
    busyRounds c (n + 1) = [.busy .high, .sleep c.tPoll] ++ busyRounds c n := by
  simp [busyRounds, List.replicate_succ]

/-- Within the timeout a wait on a line that stays busy goes on for `n` rounds, and is where it was. -/
theorem steps_busyRounds {n : Nat} {s : State} {rest : List MicroOp} (hl : s.cfg.legal = true) (hh : s.halt = false)
    (hs : s.seq = .uPoll :: rest) (hbusy : s.AlwaysBusy) (hpatient : s.Patient (s.polls + n)) :
    ∃ t, Steps (2 * n) s t ∧ t.AlwaysBusy ∧ t.apartFromAnswers =
      State.apartFromAnswers { s with polls := s.polls + n, trace := s.trace ++ busyRounds s.cfg n } := by
  induction n generalizing s with
  | zero => exact ⟨s, rfl, hbusy, by simp [busyRounds]⟩
  | succ n ih =>
    have hround := steps_poll_busy hl hh hs (hbusy.now _) (hpatient.not_timedOut (by omega))
    obtain ⟨t, hn, ht, hapart⟩ := ih (s := { s.drawnBusy with
      polls := s.polls + 1, trace := s.trace ++ [.busy .high, .sleep s.cfg.tPoll] }) hl hh hs hbusy.later
      (by rwa [Nat.add_assoc, Nat.add_comm 1 n])
    refine ⟨t, ?_, ht, hapart.trans ?_⟩
    · rw [Nat.mul_succ, Nat.add_comm]
      exact hround.trans hn
    · simp [State.apartFromAnswers, State.drawnBusy, busyRounds_succ, Nat.add_assoc, Nat.add_comm 1 n]

/-- The busy answer that reaches the timeout halts (R201, R234). -/
theorem performPoll_of_timedOut {s : State} (hbusy : s.busyNow = true) (htime : timedOut s.cfg (s.polls + 1) = true) :
    performPoll s = State.raise .controllerUnresponsive
      { s.drawnBusy.emit (.busy .high) with polls := s.polls + 1 } := by
  simp [performPoll, hbusy, htime]

theorem step_poll_timeout {s : State} {rest : List MicroOp} (hl : s.cfg.legal = true) (hh : s.halt = false)
    (hs : s.seq = .uPoll :: rest) (hbusy : s.busyNow = true) (htime : timedOut s.cfg (s.polls + 1) = true) :
    step s = .next (State.raise .controllerUnresponsive
      { s.drawnBusy.emit (.busy .high) with polls := s.polls + 1 }) := by
  rw [step_perform hl hh hs, perform, performPoll_of_timedOut (s := { s with seq := rest }) hbusy htime]
  rfl

/-! ## `WAIT_IDLE` (R202) -/

/-- Settles O39: `WAIT_IDLE` is the wait and nothing before it. -/
theorem waitIdleTrace : Obligations.WaitIdleTrace := by
  unfold Obligations.WaitIdleTrace
  intro s k ⟨hl, hi, hp⟩ hbusy hpatient
  obtain ⟨-, hhalt⟩ := s.idle_iff.1 hi
  have hcalm : s.Calm [] :=
    { legal := hl, running := hhalt, smooth := smooth_nil s.cfg, writes := by simp, polls := by simp }
  obtain ⟨a, t, hx, hc, ht⟩ := waiting_operation_completes (i := .waitIdle) (ops := []) hi hp rfl rfl rfl (by simp)
    hcalm hbusy hpatient
  refine ⟨a, t, hx, hc, ht.trans ?_⟩
  rw [State.begun_of_idle hi]
  rfl

/-- Settles O40: without a timeout there is no last round. -/
theorem waitCanHang : Obligations.WaitCanHang := by
  unfold Obligations.WaitCanHang
  intro s ⟨hl, hi, hp⟩ hbusy hnone
  obtain ⟨-, hhalt⟩ := s.idle_iff.1 hi
  refine ⟨_, exec_of_phase (i := .waitIdle) hi hp rfl, fun n => ?_⟩
  have hpatient : (s.take .waitIdle).Patient ((s.take .waitIdle).polls + n) := fun limit hlimit => by
    cases hnone.symm.trans hlimit
  obtain ⟨t, hn, -, ht⟩ := steps_busyRounds (s := s.take .waitIdle) hl hhalt rfl hbusy hpatient
  have hseq : t.seq = [.uPoll] := congrArg State.seq ht
  exact ⟨t, hn, (congrArg State.halt ht).trans hhalt, by simp [State.idle, hseq],
    (congrArg State.polls ht).trans (Nat.zero_add n), congrArg State.trace ht⟩

/-- Settles O41: all busy answers but the last are within the timeout. -/
theorem timeoutHalts : Obligations.TimeoutHalts := by
  unfold Obligations.TimeoutHalts
  intro s n ⟨hl, hi, hp⟩ hbusy hlimit
  obtain ⟨-, hhalt⟩ := s.idle_iff.1 hi
  have hpatient : (s.take .waitIdle).Patient ((s.take .waitIdle).polls + n) := fun limit h => by
    cases hlimit.symm.trans h
    exact (Nat.zero_add n).trans_lt n.lt_succ_self
  obtain ⟨t, hn, htbusy, ht⟩ := steps_busyRounds (s := s.take .waitIdle) hl hhalt rfl hbusy hpatient
  have hcfg : t.cfg = s.cfg := (congrArg State.cfg ht).trans rfl
  have hpolls : t.polls = n := (congrArg State.polls ht).trans (Nat.zero_add n)
  have hlast := step_poll_timeout (s := t) (hcfg ▸ hl) ((congrArg State.halt ht).trans hhalt) (congrArg State.seq ht)
    (htbusy.now _) ((timedOut_iff _ _).2 ⟨n + 1, hcfg ▸ hlimit, hpolls ▸ le_rfl⟩)
  refine ⟨_, _, _, exec_of_phase hi hp rfl, hn.trans (steps_one.2 hlast), ?_⟩
  have hraised : (State.raise .controllerUnresponsive
      { t.drawnBusy.emit (.busy .high) with polls := t.polls + 1 }).apartFromAnswers =
      State.raise .controllerUnresponsive { t.apartFromAnswers.emit (.busy .high) with polls := t.polls + 1 } := rfl
  rw [hraised, ht, hpolls]
  simp [State.apartFromAnswers, State.raise, State.emit, State.take, accepted, busyRounds]

/-! ## `TURN_ON_DISPLAY` (R209) -/

/-- `TURN_ON_DISPLAY` before its poll. -/
def opsActivate (c : Config) : List MicroOp := opsDisplayUpdate2 c ++ opsMasterActivation c ++ opsTerminateFrame c

theorem opsTurnOnDisplay_eq_append (c : Config) : opsTurnOnDisplay c = opsActivate c ++ [.uPoll] := rfl

theorem uPoll_notMem_opsActivate (c : Config) : .uPoll ∉ opsActivate c := by
  simp [opsActivate, opsDisplayUpdate2, opsMasterActivation, opsTerminateFrame]

theorem foldl_opsActivate (c : Config) (s : State) :
    (opsActivate c).foldl State.quietly s = s.sent .low (activationEvents c) := by
  simp [opsActivate, opsDisplayUpdate2, payloadDisplayUpdate2, opsMasterActivation, opsTerminateFrame,
    activationEvents]

/-- Settles O44: three panel commands, then the wait. -/
theorem turnOnDisplayTrace : Obligations.TurnOnDisplayTrace := by
  unfold Obligations.TurnOnDisplayTrace
  intro s k ⟨hl, hi, hp⟩ ha hbusy hpatient
  obtain ⟨-, hhalt⟩ := s.idle_iff.1 hi
  have hsmooth : Smooth s.cfg (opsActivate s.cfg) := ((smooth_append ..).1 (smooth_opsTurnOnDisplay s.cfg s.cfg)).1
  have hcalm : s.Calm (opsActivate s.cfg) :=
    { legal := hl, running := hhalt, smooth := hsmooth, writes := fun _ _ _ => ha,
      polls := fun hm => absurd hm (uPoll_notMem_opsActivate _) }
  obtain ⟨a, t, hx, hc, ht⟩ := waiting_operation_completes (i := .turnOnDisplay) hi hp rfl rfl
    (opsTurnOnDisplay_eq_append _) (uPoll_notMem_opsActivate _) hcalm hbusy hpatient
  refine ⟨a, t, hx, hc, ht.trans ?_⟩
  rw [State.begun_of_idle hi, foldl_opsActivate]
  rfl

end Sys2Proof.Machine

/-! PROOFS. `CLEAR` and `DISPLAY` on a quiet panel (spec/44_display_clear_busy.md R210 to R216): what they stream, and
how much of it. -/

namespace Sys2Proof.Machine

/-! ## What `CLEAR` and `DISPLAY` stream (R213, R215) -/

/-- Settles O45, which is what `clear_completes` says. -/
theorem clearStreamsTheFillByte : Obligations.ClearStreamsTheFillByte := by
  unfold Obligations.ClearStreamsTheFillByte
  exact fun _ f h ha hb => clear_completes f h ha hb

/-- `uPACK` does not depend on `POLLS`, and asks nothing of the environment. -/
theorem packImage_apartFromAnswers (s : State) (n : Nat) :
    State.packImage (State.apartFromAnswers { s with polls := n }) =
      State.apartFromAnswers { s.packImage with polls := n } := by
  simp only [packImage_eq]
  rfl

/-- The micro-operations of `DISPLAY` from where acceptance leaves the PDC (R213). -/
theorem foldl_opsDisplay_accepted {s : State} (hl : s.cfg.legal = true) :
    (opsDisplay s.cfg).foldl State.quietly (State.apartFromAnswers { s with polls := 0 }) =
      State.apartFromAnswers { s.packImage with
        polls := 0, xs := .value 0, ys := .value 0, xe := .value (lastColumn s.cfg), ye := .value (lastRow s.cfg),
        cx := .value 0, cy := .value (lastRow s.cfg), dc := .driven .low, cs := .driven .high,
        trace := s.trace ++ streamEvents s.cfg (fun j => s.packImage.bytesAt .buf (j * s.cfg.wb) s.cfg.wb) } := by
  refine (foldl_opsDisplay (s := State.apartFromAnswers { s with polls := 0 }) hl).trans ?_
  rw [packImage_apartFromAnswers, ← s.packImage_trace]
  rfl

/-- Settles O46: the micro-operations of `DISPLAY`, one after the other, and nothing stops them. -/
theorem displayStreamsThePackedImage : Obligations.DisplayStreamsThePackedImage := by
  unfold Obligations.DisplayStreamsThePackedImage
  intro s w h ⟨hl, hi, hp⟩ ha hb p
  obtain ⟨-, hhalt⟩ := s.idle_iff.1 hi
  have hcalm : s.Calm (opsDisplay s.cfg) :=
    { legal := hl, running := hhalt, smooth := smooth_opsDisplay s.cfg, writes := fun _ _ _ => ha,
      polls := fun _ => hb }
  obtain ⟨a, t, hx, hc, ht⟩ := operation_completes (i := .display w h true) hi hp rfl hcalm
  refine ⟨a, t, hx, hc, ht.trans ?_⟩
  rw [State.ran, State.begun_of_idle hi]
  exact foldl_opsDisplay_accepted (s := { s with imgw := .value w, imgh := .value h }) hl

/-! ## How much is streamed (R210, R213, R215, R216) -/

/-- These events are `events` many, carry `bytes` bytes, hold `reads` busy reads and make `frames` whole frames. -/
structure Amounts (es : List Event) (events bytes reads frames : Nat) : Prop where
  events : es.length = events
  bytes  : (es.flatMap bytesOf).length = bytes
  reads  : es.countP isBusyRead = reads
  frames : ∀ f : FrameScan, f.opened = none →
    (es.foldl FrameScan.next f).opened = none ∧ (es.foldl FrameScan.next f).closed.length = f.closed.length + frames

theorem Amounts.append {es fs : List Event} {a b c d a' b' c' d' : Nat} (h : Amounts es a b c d)
    (k : Amounts fs a' b' c' d') : Amounts (es ++ fs) (a + a') (b + b') (c + c') (d + d') where
  events := by rw [List.length_append, h.events, k.events]
  bytes := by rw [List.flatMap_append, List.length_append, h.bytes, k.bytes]
  reads := by rw [List.countP_append, h.reads, k.reads]
  frames f hf := by
    obtain ⟨hopened, hclosed⟩ := h.frames f hf
    obtain ⟨kopened, kclosed⟩ := k.frames _ hopened
    rw [List.foldl_append]
    exact ⟨kopened, by rw [kclosed, hclosed, Nat.add_assoc]⟩

theorem Amounts.length_closed {es : List Event} {a b c d : Nat} (h : Amounts es a b c d) :
    (scanFrames es).closed.length = d :=
  (h.frames _ rfl).2.trans (Nat.zero_add d)

/-- As much for each of `n` rows. -/
theorem Amounts.flatMap_range {g : Nat → List Event} {a b c d : Nat} (h : ∀ j, Amounts (g j) a b c d) (n : Nat) :
    Amounts ((List.range n).flatMap g) (a * n) (b * n) (c * n) (d * n) := by
  induction n with
  | zero => exact ⟨rfl, rfl, rfl, fun _ hf => ⟨hf, rfl⟩⟩
  | succ n ih =>
    rw [List.range_succ, List.flatMap_append, List.flatMap_singleton]
    exact ih.append (h n)

theorem amounts_busy (l : Level) : Amounts [.busy l] 1 0 1 0 := ⟨rfl, rfl, rfl, fun _ hf => ⟨hf, rfl⟩⟩

/-- One frame (R162). -/
theorem amounts_frame (l : Level) (bytes : List Byte) :
    Amounts [.dc l, .cs .low, .wr bytes, .cs .high] 4 bytes.length 0 1 where
  events := rfl
  bytes := by simp [bytesOf]
  reads := rfl
  frames f _ := by simp [FrameScan.next]

theorem amounts_commandFrame (code : Byte) : Amounts (commandFrame code) 4 1 0 1 := amounts_frame .low [code]

theorem amounts_dataFrame (bytes : List Byte) : Amounts (dataFrame bytes) 4 bytes.length 0 1 :=
  amounts_frame .high bytes

section
variable {c : Config} (hf : c.framePerByte = false)
include hf

/-- A panel command with a payload: without `FRAME_PER_BYTE` that is two frames (R163). -/
theorem amounts_commandEvents (code : Byte) (bytes : List Byte) :
    Amounts (commandEvents c code bytes) 8 (1 + bytes.length) 0 2 := by
  rw [commandEvents, payloadFrames, if_neg (by simp [hf])]
  exact (amounts_commandFrame code).append (amounts_dataFrame bytes)

theorem amounts_windowEvents (xs ys xe ye : Half) : Amounts (windowEvents c xs ys xe ye) 16 8 0 4 :=
  (amounts_commandEvents hf _ _).append (amounts_commandEvents hf _ _)

theorem amounts_cursorEvents (x y : Half) : Amounts (cursorEvents c x y) 16 5 0 4 :=
  (amounts_commandEvents hf _ _).append (amounts_commandEvents hf _ _)

theorem amounts_activationEvents : Amounts (activationEvents c) 16 4 0 4 :=
  ((amounts_commandEvents hf _ _).append (amounts_commandFrame _)).append (amounts_commandFrame _)

/-- One row, its cursor and its poll included (R210). -/
theorem amounts_rowEvents (j : Nat) (bytes : List Byte) :
    Amounts (rowEvents c j bytes) 25 (6 + bytes.length) 1 6 :=
  (((amounts_cursorEvents hf _ _).append (amounts_busy .low)).append (amounts_commandFrame _)).append
    (amounts_dataFrame bytes)

/-- The whole streaming of rows of `WB` bytes (R213, R215). -/
theorem amounts_streamEvents {w : Nat → List Byte} (hw : ∀ j, (w j).length = c.wb) :
    Amounts (streamEvents c w) (16 + 25 * c.height + 17) (8 + (6 + c.wb) * c.height + 4) (c.height + 1)
      (4 + 6 * c.height + 4) := by
  have hrows := Amounts.flatMap_range (fun j => hw j ▸ amounts_rowEvents hf j (w j)) c.height
  have h := (((amounts_windowEvents hf 0 0 (lastColumn c) (lastRow c)).append hrows).append
    (amounts_activationEvents hf)).append (amounts_busy .low)
  rwa [Nat.zero_add, Nat.one_mul] at h

end

/-- Settles O53: both stream rows of `WB` bytes. -/
theorem streamCounts : Obligations.StreamCounts := by
  unfold Obligations.StreamCounts
  intro s h ha hb hf counted
  have streams {i : Instr} {a t : State} {w : Nat → List Byte} (hx : exec i s = .next a) (hc : Completes a t)
      (ht : t.trace = s.trace ++ streamEvents s.cfg w) (hw : ∀ j, (w j).length = s.cfg.wb) : counted i := by
    have hamounts := amounts_streamEvents hf hw
    exact ⟨a, t, _, hx, hc, ht, hamounts.events, hamounts.bytes, hamounts.reads, hamounts.length_closed⟩
  refine ⟨fun f => ?_, fun w h' => ?_⟩
  · obtain ⟨a, t, hx, hc, ht⟩ := clearStreamsTheFillByte s f h ha hb
    exact streams hx hc (congrArg State.trace ht) fun _ => List.length_replicate
  · obtain ⟨a, t, hx, hc, ht⟩ := displayStreamsThePackedImage s w h' h ha hb
    exact streams hx hc (congrArg State.trace ht) fun _ => State.length_bytesAt ..

end Sys2Proof.Machine

/-! PROOFS. `DISPLAY` of an image without a black pixel has the traces of `CLEAR 0xFF`
(spec/44_display_clear_busy.md R218), whatever the environment answers: both are traces of one machine, which runs
`CLEAR 0xFF` and holds nothing that only `DISPLAY` writes. -/

namespace Sys2Proof.Machine

/-! ## A state as `CLEAR 0xFF` would have it -/

/-- The micro-operations of `CLEAR` that stand for one of `DISPLAY` (R213, R215). -/
def MicroOp.asClear (c : Config) : MicroOp → List MicroOp
  | .uPack => []
  | .uWrRow _ => [.uWrFill c.wb]
  | m => [m]

/-- What the runs of `DISPLAY` and `CLEAR 0xFF` have in common: the micro-operations of `DISPLAY` are those of `CLEAR`,
`FILL` is 0xFF, and what only `DISPLAY` writes is forgotten. -/
def State.asClear (s : State) : State :=
  { s with
    seq := s.seq.flatMap (MicroOp.asClear s.cfg), fill := .value 0xFF, imgw := .noValue, imgh := .noValue,
    orient := .noValue, buf := [], flags := (State.powerOn s.cfg).flags }

@[simp] theorem State.asClear_trace (s : State) : s.asClear.trace = s.trace := rfl

/-- Whatever these micro-operations write of `BUF` and `FILL` is 0xFF (R156, R157): `FILL` holds it, and so does `BUF`
from `uPACK` on, or already if a row comes before one. The host makes no further move. -/
structure State.White (ops : List MicroOp) (s : State) : Prop where
  legal : s.cfg.legal = true
  host  : s.host = []
  range : ∀ m ∈ ops, m.inRange s.cfg
  fill  : ∀ n, .uWrFill n ∈ ops → s.fill = .value 0xFF
  pack  : .uPack ∈ ops → s.packImage.buf = Memory.filled s.cfg.buflen 0xFF
  rows  : ∀ j, .uWrRow j ∈ ops.takeWhile (· ≠ .uPack) → s.buf = Memory.filled s.cfg.buflen 0xFF

theorem State.White.withSeq {ops : List MicroOp} {s : State} (h : s.White ops) (rest : List MicroOp) :
    State.White ops { s with seq := rest } where
  legal := h.legal
  host := h.host
  range := h.range
  fill := h.fill
  pack hm := (packImage_buf_congr (s := { s with seq := rest }) (t := s) rfl rfl rfl rfl).trans (h.pack hm)
  rows := h.rows

theorem State.White.nil {ops : List MicroOp} {s : State} (h : s.White ops) : s.White [] where
  legal := h.legal
  host := h.host
  range := by simp
  fill := by simp
  pack := by simp
  rows := by simp

/-- A poll that goes on puts nothing back that writes (R201). -/
theorem State.White.poll_again {ops : List MicroOp} {s : State} (h : s.White ops) (n : Nat) :
    s.White (.uSleep n :: .uPoll :: ops) where
  legal := h.legal
  host := h.host
  range := by simpa [MicroOp.inRange] using h.range
  fill := by simpa using h.fill
  pack := by simpa using h.pack
  rows := by simpa using h.rows

/-- What comes after a micro-operation goes on writing 0xFF. -/
theorem State.White.tail {m : MicroOp} {rest : List MicroOp} {s t : State} (h : s.White (m :: rest))
    (hp : perform m s = .next t) : t.White rest := by
  have hP := perform_performed hp
  refine ⟨?legal, hP.host.trans h.host, ?range, ?fill, ?pack, ?rows⟩
  case legal => rw [hP.cfg, h.legal]
  case range => exact hP.cfg ▸ fun k hk => h.range k (List.mem_cons_of_mem _ hk)
  case fill => exact fun n hn => hP.fill.trans (h.fill n (List.mem_cons_of_mem _ hn))
  case pack =>
    intro hk
    rw [packImage_buf_congr hP.cfg hP.img hP.imgw hP.imgh, hP.cfg, h.pack (List.mem_cons_of_mem _ hk)]
  case rows =>
    intro j hj
    rw [hP.cfg]
    by_cases hm : m = .uPack
    · subst hm
      cases hp
      exact h.pack List.mem_cons_self
    · rw [(hP.pack hm).1]
      exact h.rows j (by rw [List.takeWhile_cons_of_pos (by simpa using hm)]; exact List.mem_cons_of_mem _ hj)

/-- So does what is pending when it has been performed. -/
theorem State.White.performed {m : MicroOp} {rest : List MicroOp} {s t : State} (h : s.White (m :: rest))
    (hs : s.seq = rest) (hp : perform m s = .next t) : t.White t.seq := by
  have ht := h.tail hp
  rcases (perform_performed hp).seq with hseq | ⟨-, hseq⟩ | ⟨-, hseq⟩
  · rwa [hseq, hs]
  · rw [hseq]
    exact ht.nil
  · rw [hseq, hs]
    exact ht.poll_again _

/-! ## A micro-operation of both -/

theorem performWrite_asClear (bytes : List Byte) (s : State) :
    performWrite bytes s.asClear = (performWrite bytes s).asClear := by
  have hnow : s.asClear.abortsNow = s.abortsNow := rfl
  unfold performWrite
  rw [hnow]
  split <;> rfl

theorem performOpen_asClear (s : State) : performOpen s.asClear = (performOpen s).asClear := by
  have hnow : s.asClear.opensNow = s.opensNow := rfl
  unfold performOpen
  rw [hnow]
  cases s.opensNow <;> rfl

theorem performPoll_asClear (s : State) : performPoll s.asClear = (performPoll s).asClear := by
  have hnow : s.asClear.busyNow = s.busyNow := rfl
  have htime : timedOut s.asClear.cfg (s.asClear.polls + 1) = timedOut s.cfg (s.polls + 1) := rfl
  rcases performPoll_cases s with ⟨hb, he⟩ | ⟨hb, ht, he⟩ | ⟨hb, ht, he⟩ <;> rw [← hnow] at hb
  · rw [he, performPoll, if_neg (by simp [hb])]
    rfl
  · rw [← htime] at ht
    rw [he, performPoll, if_pos hb]
    exact if_neg (by simpa using ht)
  · rw [he, performPoll_of_timedOut hb ht]
    rfl

/-- In a white buffer a row is white (R156). -/
theorem bytesAt_buf_of_filled {s : State} {a n : Nat} (h : s.buf = Memory.filled s.cfg.buflen 0xFF)
    (ha : a + n ≤ s.cfg.buflen) : s.bytesAt .buf a n = List.replicate n 0xFF := by
  refine List.ext_getElem (by simp) fun k hk _ => ?_
  have hlt : a + k < s.cfg.buflen := by
    rw [State.length_bytesAt] at hk
    omega
  simp [State.bytesAt, State.byteAt, State.mem, h, Memory.read_filled, hlt]

/-- `DISPLAY`'s micro-operation and `CLEAR`'s do the same. -/
theorem perform_asClear {m : MicroOp} {rest : List MicroOp} {s : State} (h : s.White (m :: rest)) (hm : m ≠ .uPack) :
    ∃ k t, m.asClear s.cfg = [k] ∧ perform m s = .next t ∧ perform k s.asClear = .next t.asClear := by
  have hrange := h.range m List.mem_cons_self
  have write {k : MicroOp} {bytes : List Byte} (hk : m.asClear s.cfg = [k])
      (hs : perform m s = .next (performWrite bytes s))
      (hz : perform k s.asClear = .next (performWrite bytes s.asClear)) :
      ∃ k t, m.asClear s.cfg = [k] ∧ perform m s = .next t ∧ perform k s.asClear = .next t.asClear :=
    ⟨k, _, hk, hs, hz.trans (congrArg _ (performWrite_asClear bytes s))⟩
  cases m
  case uPack => exact absurd rfl hm
  case uOpen => exact ⟨_, _, rfl, rfl, congrArg _ (performOpen_asClear s)⟩
  case uPoll => exact ⟨_, _, rfl, rfl, congrArg _ (performPoll_asClear s)⟩
  case uWrImm => exact write rfl rfl rfl
  case uWrPay => exact write rfl (perform_uWrPay hrange) (perform_uWrPay (s := s.asClear) hrange)
  case uWrFill n =>
    have hfill : s.fillVal = 0xFF := by rw [State.fillVal, h.fill n List.mem_cons_self, Held.get]
    exact write (bytes := List.replicate n 0xFF) rfl (by rw [perform, hfill]) rfl
  case uWrRow j =>
    have hrow := bytesAt_buf_of_filled (h.rows j (by simp)) (row_le_sizeOf hrange)
    exact write (bytes := List.replicate s.cfg.wb 0xFF) rfl (by rw [perform_uWrRow hrange, hrow]) rfl
  all_goals exact ⟨_, _, rfl, rfl, rfl⟩

/-! ## A step of both -/

/-- While `uPACK` is not next, a step is a step of both. -/
theorem step_asClear {s : State} (h : s.White s.seq) (hh : s.halt = false) (hpack : s.seq.head? ≠ some .uPack) :
    ∃ t, step s = .next t ∧ t.White t.seq ∧ step s.asClear = .next t.asClear := by
  cases hs : s.seq with
  | nil =>
    have hi : s.idle = true := s.idle_iff.2 ⟨hs, hh⟩
    have hi' : s.asClear.idle = true := s.asClear.idle_iff.2 ⟨by simp [State.asClear, hs], hh⟩
    exact ⟨s, step_wait h.legal hi h.host, h, step_wait h.legal hi' h.host⟩
  | cons m rest =>
    rw [hs] at h hpack
    have hw := h.withSeq rest
    obtain ⟨k, t, hk, hp, hz⟩ := perform_asClear hw (by simpa using hpack)
    refine ⟨t, (step_perform h.legal hh hs).trans hp, hw.performed rfl hp, ?_⟩
    have hseq : s.asClear.seq = k :: rest.flatMap (MicroOp.asClear s.cfg) := by
      rw [State.asClear, hs, List.flatMap_cons, hk]
      rfl
    exact (step_perform (s := s.asClear) h.legal hh hseq).trans hz

/-- `uPACK` is a step of `DISPLAY` alone. -/
theorem step_pack_asClear {s : State} {rest : List MicroOp} (h : s.White s.seq) (hh : s.halt = false)
    (hs : s.seq = .uPack :: rest) :
    ∃ t, step s = .next t ∧ t.White t.seq ∧ t.asClear = s.asClear ∧ t.seq = rest ∧ t.halt = false := by
  rw [hs] at h
  refine ⟨_, step_perform h.legal hh hs, (h.withSeq rest).performed rfl rfl, ?_, ?_, ?_⟩
  · simp [packImage_eq, State.asClear, hs, MicroOp.asClear]
  · simp [packImage_eq]
  · simp [packImage_eq, hh]

/-! ## A run of both -/

/-- A run of either is a run of what both have in common. -/
theorem Steps.asClear {n : Nat} {s t : State} (h : s.White s.seq) (hn : Steps n s t) :
    ∃ m, Steps m s.asClear t.asClear := by
  induction n generalizing s with
  | zero => exact ⟨0, congrArg State.asClear hn⟩
  | succ n ih =>
    obtain ⟨u, hu, hrest⟩ := steps_succ.1 hn
    have hh := (step_stepTo hu).1
    by_cases hpack : s.seq.head? = some .uPack
    · obtain ⟨rest, hs⟩ := List.head?_eq_some_iff.1 hpack
      obtain ⟨v, hv, hw, hsame, -⟩ := step_pack_asClear h hh hs
      cases hu.symm.trans hv
      exact hsame ▸ ih hw hrest
    · obtain ⟨v, hv, hw, hstep⟩ := step_asClear h hh hpack
      cases hu.symm.trans hv
      obtain ⟨m, hm⟩ := ih hw hrest
      exact ⟨m + 1, steps_succ.2 ⟨_, hstep, hm⟩⟩

/-- A pending `uPACK` is performed first. -/
theorem steps_until_packed {s : State} (h : s.White s.seq) (hh : s.halt = false) :
    ∃ n t, Steps n s t ∧ t.White t.seq ∧ t.halt = false ∧ t.asClear = s.asClear ∧ t.seq.head? ≠ some .uPack := by
  generalize hs : s.seq = ops at h
  induction ops generalizing s with
  | nil => exact ⟨0, s, rfl, hs ▸ h, hh, rfl, by simp [hs]⟩
  | cons m ops ih =>
    by_cases hm : m = .uPack
    · subst hm
      obtain ⟨u, hu, hw, hsame, hseq, hrun⟩ := step_pack_asClear (hs ▸ h) hh hs
      obtain ⟨n, t, hn, ht, hhalt, hclear, hhead⟩ := ih hrun hseq (hseq ▸ hw)
      exact ⟨n + 1, t, steps_succ.2 ⟨u, hu, hn⟩, ht, hhalt, hclear.trans hsame, hhead⟩
    · exact ⟨0, s, rfl, hs ▸ h, hh, rfl, by simpa [hs] using hm⟩

/-- A run of what both have in common is a run of either. -/
theorem steps_of_asClear {n : Nat} {s z : State} (h : s.White s.seq) (hn : Steps n s.asClear z) :
    ∃ m t, Steps m s t ∧ t.asClear = z := by
  induction n generalizing s with
  | zero => exact ⟨0, s, rfl, hn.symm⟩
  | succ n ih =>
    obtain ⟨y, hy, hrest⟩ := steps_succ.1 hn
    obtain ⟨k, u, hk, hw, hh, hsame, hpack⟩ := steps_until_packed h (step_stepTo hy).1
    obtain ⟨v, hv, hvw, hstep⟩ := step_asClear hw hh hpack
    rw [hsame, hy] at hstep
    cases hstep
    obtain ⟨m, t, hm, ht⟩ := ih hvw hrest
    exact ⟨_, t, hk.trans (steps_succ.2 ⟨v, hv, hm⟩), ht⟩

/-- So two states that have it in common have the same traces. -/
theorem traces_eq_of_asClear_eq {s s' : State} (h : s.White s.seq) (h' : s'.White s'.seq)
    (hsame : s.asClear = s'.asClear) {n : Nat} {t : State} (hn : Steps n s t) :
    ∃ m u, Steps m s' u ∧ u.trace = t.trace := by
  obtain ⟨k, hk⟩ := hn.asClear h
  obtain ⟨m, u, hm, hu⟩ := steps_of_asClear h' (hsame ▸ hk)
  exact ⟨m, u, hm, by rw [← u.asClear_trace, hu, t.asClear_trace]⟩

/-! ## The micro-operations of `DISPLAY` and `CLEAR` -/

/-- Neither packs nor writes of `BUF` or `FILL`. -/
def MicroOp.plain : MicroOp → Bool
  | .uPack | .uWrRow _ | .uWrFill _ => false
  | .uOpen | .uClose | .uRst _ | .uDc _ | .uCs _ | .uWrImm _ | .uWrPay _ | .uSleep _ | .uPhase _ | .uSetWin _ _ _ _
  | .uSetCur _ _ | .uPoll => true

section
variable {m : MicroOp} (hm : m.plain = false)
include hm

theorem ne_of_plain {k : MicroOp} (hk : k.plain = true) : m ≠ k := by
  rintro rfl
  simp [hm] at hk

/-- A frame is plain but for its write (R162). -/
theorem mem_frame_of_not_plain (l : Level) (w : MicroOp) : m ∈ frame l w ↔ m = w := by
  have hdc : m ≠ .uDc l := ne_of_plain hm rfl
  have hcs (k : Level) : m ≠ .uCs k := ne_of_plain hm rfl
  simp [frame, hdc, hcs]

/-- A panel command is plain (R163). -/
theorem notMem_cmd_of_not_plain (c : Config) (code : Byte) (bytes : List Byte) : m ∉ cmd c code bytes := by
  have himm (bs : List Byte) : m ≠ .uWrImm bs := ne_of_plain hm rfl
  cases bytes with
  | nil => simp [cmd, frameC, mem_frame_of_not_plain hm, himm]
  | cons b bs =>
    cases hf : c.framePerByte <;> simp [cmd, payload, frameC, frameD, hf, mem_frame_of_not_plain hm, himm]

/-- So is `SET_WINDOW` (R187). -/
theorem notMem_opsSetWindow_of_not_plain (c : Config) (xs ys xe ye : Half) : m ∉ opsSetWindow c xs ys xe ye := by
  have hset : m ≠ .uSetWin xs ys xe ye := ne_of_plain hm rfl
  simp [opsSetWindow, opsSetRamXRange, opsSetRamYRange, notMem_cmd_of_not_plain hm, hset]

/-- So is `TURN_ON_DISPLAY` (R209). -/
theorem notMem_opsTurnOnDisplay_of_not_plain (c : Config) : m ∉ opsTurnOnDisplay c := by
  have hpoll : m ≠ .uPoll := ne_of_plain hm rfl
  simp [opsTurnOnDisplay, opsDisplayUpdate2, opsMasterActivation, opsTerminateFrame, notMem_cmd_of_not_plain hm, hpoll]

/-- The rows are plain but for their writes (R210). -/
theorem mem_opsRows_of_not_plain (c : Config) (w : Nat → MicroOp) : m ∈ opsRows c w ↔ ∃ j < c.height, m = w j := by
  have hset (x y : Half) : m ≠ .uSetCur x y := ne_of_plain hm rfl
  have hpoll : m ≠ .uPoll := ne_of_plain hm rfl
  have himm (bs : List Byte) : m ≠ .uWrImm bs := ne_of_plain hm rfl
  simp [opsRows, opsRow, opsSetCursor, opsSetRamXCounter, opsSetRamYCounter, opsWriteRam, frameC,
    notMem_cmd_of_not_plain hm, mem_frame_of_not_plain hm, hset, hpoll, himm]

theorem mem_opsDisplay_of_not_plain (c : Config) :
    m ∈ opsDisplay c ↔ m = .uPack ∨ ∃ j < c.height, m = .uWrRow j := by
  simp [opsDisplay, opsFullWindow, notMem_opsSetWindow_of_not_plain hm, mem_opsRows_of_not_plain hm,
    notMem_opsTurnOnDisplay_of_not_plain hm]

theorem mem_opsClear_of_not_plain (c : Config) : m ∈ opsClear c ↔ ∃ j < c.height, m = .uWrFill c.wb := by
  simp only [opsClear, opsFullWindow, List.mem_append, notMem_opsSetWindow_of_not_plain hm,
    mem_opsRows_of_not_plain hm, notMem_opsTurnOnDisplay_of_not_plain hm, false_or, or_false]

end

/-- `DISPLAY` reads no row of `BUF` before it packs (R213). -/
theorem takeWhile_opsDisplay (c : Config) : (opsDisplay c).takeWhile (· ≠ .uPack) = opsFullWindow c := by
  have hwindow : ∀ m ∈ opsFullWindow c, decide (m ≠ .uPack) = true := fun m hm =>
    decide_eq_true fun h => notMem_opsSetWindow_of_not_plain (m := .uPack) rfl _ _ _ _ _ (h ▸ hm)
  rw [opsDisplay, List.append_assoc, List.append_assoc, List.takeWhile_append_of_pos hwindow]
  simp

/-- The micro-operations of `DISPLAY` and of `CLEAR` come down to the same. -/
theorem flatMap_asClear_opsDisplay (c : Config) :
    (opsDisplay c).flatMap (MicroOp.asClear c) = (opsClear c).flatMap (MicroOp.asClear c) := by
  have hrows : (opsRows c .uWrRow).flatMap (MicroOp.asClear c) =
      (opsRows c fun _ => .uWrFill c.wb).flatMap (MicroOp.asClear c) := by
    simp only [opsRows, List.flatMap_assoc, opsRow, opsWriteRam, List.flatMap_append]
    rfl
  simp only [opsDisplay, opsClear, List.flatMap_append, hrows]
  simp [MicroOp.asClear]

/-! ## Both operations at their start -/

/-- `CLEAR 0xFF` writes 0xFF (R215). -/
theorem white_take_clear {s : State} (hl : s.cfg.legal = true) (ho : s.host = []) :
    (s.take (.clear 0xFF)).White (s.take (.clear 0xFF)).seq where
  legal := hl
  host := ho
  range m hm := (smooth_opsClear s.cfg m hm).2
  fill _ _ := rfl
  pack hm := by simpa using (mem_opsClear_of_not_plain rfl s.cfg).1 hm
  rows j hj := by simpa using (mem_opsClear_of_not_plain rfl s.cfg).1 ((List.takeWhile_prefix _).subset hj)

/-- `DISPLAY` of an image that packs to 0xFF writes 0xFF (R213). -/
theorem white_take_display {s : State} {w h : Half} (hl : s.cfg.legal = true) (ho : s.host = [])
    (hpack : (State.packImage { s with imgw := .value w, imgh := .value h }).buf = Memory.filled s.cfg.buflen 0xFF) :
    (s.take (.display w h true)).White (s.take (.display w h true)).seq where
  legal := hl
  host := ho
  range m hm := (smooth_opsDisplay s.cfg m hm).2
  fill n hn := by simpa using (mem_opsDisplay_of_not_plain rfl s.cfg).1 hn
  pack _ := (packImage_buf_congr (s := s.take (.display w h true))
    (t := { s with imgw := .value w, imgh := .value h }) rfl rfl rfl rfl).trans hpack
  rows j hj := by
    have hj' : .uWrRow j ∈ opsFullWindow s.cfg := takeWhile_opsDisplay s.cfg ▸ hj
    exact absurd hj' (notMem_opsSetWindow_of_not_plain rfl _ _ _ _ _)

/-- `uPACK` leaves `BUF` all 0xFF where it finds no orientation or no black pixel (R174, R177). -/
theorem packImage_buf_eq_filled {s : State} (h : s.packImage.orient = .value .none ∨ s.packImage.AllWhite) :
    s.packImage.buf = Memory.filled s.cfg.buflen 0xFF := by
  have hwhite : s.packImage.AllWhite → s.AllWhite := by
    rw [packImage_eq]
    exact id
  rw [State.packImage_orient, Held.value.injEq] at h
  rw [State.packImage_buf, packed_eq_filled (h.imp_right hwhite)]

/-- Settles O59: `DISPLAY` and `CLEAR 0xFF` have their runs in common. -/
theorem whiteDisplayIsClear : Obligations.WhiteDisplayIsClear := by
  unfold Obligations.WhiteDisplayIsClear
  intro s w h ⟨hl, hi, hp⟩ ho p himage
  have hwhite := white_take_display hl ho (packImage_buf_eq_filled himage)
  have hclear := white_take_clear hl ho
  have hsame : (s.take (.display w h true)).asClear = (s.take (.clear 0xFF)).asClear := by
    simp only [State.asClear, State.take, expansion, flatMap_asClear_opsDisplay, accepted]
  exact ⟨_, _, exec_of_phase hi hp rfl, exec_of_phase hi hp rfl,
    fun _ _ hn => traces_eq_of_asClear_eq hwhite hclear hsame hn,
    fun _ _ hn => traces_eq_of_asClear_eq hclear hwhite hsame.symm hn⟩

end Sys2Proof.Machine

/-! PROOFS. No access of the PDC faults (spec/45_arithmetic_control_memory.md R223): what is pending accesses only
addresses inside the spaces, and only the host's own write can leave one. -/

namespace Sys2Proof.Machine

/-! ## The pending accesses stay in range -/

/-- A micro-operation leaves in range what is pending: what `uPOLL` puts back accesses no memory (R201). -/
theorem perform_inRange {m : MicroOp} {s t : State} (h : perform m s = .next t) (hs : s.InRange) : t.InRange := by
  have hP := perform_performed h
  unfold State.InRange
  rw [hP.cfg]
  rcases hP.seq with hseq | ⟨-, hseq⟩ | ⟨-, hseq⟩
  · rwa [hseq]
  · simp [hseq]
  · rw [hseq]
    exact List.forall_mem_cons.2 ⟨trivial, List.forall_mem_cons.2 ⟨trivial, hs⟩⟩

/-- What is loaded for an operation other than `INIT` that is not turned away is smooth: rows end with `HEIGHT` (R210),
and `SEND_DATA` takes no more than `PAY_SIZE` (R97 check 3). -/
theorem smooth_expansion {s : State} {i : Instr} (hl : s.cfg.legal = true) (hinit : i ≠ .init)
    (hturn : turnedAway s i = none) : Smooth s.cfg (expansion s.cfg i) := by
  cases i
  case init => exact absurd rfl hinit
  case sendData n =>
    have hn : n.toNat ≤ s.cfg.paySize := by
      by_contra hlt
      simp [turnedAway, Nat.lt_of_not_le hlt] at hturn
    simpa [expansion, opsSendData, frame, MicroOp.inRange] using hn
  case display => exact smooth_opsDisplay s.cfg
  case clear => exact smooth_opsClear s.cfg
  case setWindow => exact smooth_opsSetWindow _ _ _ _ _ _
  case setCursor => exact smooth_opsSetCursor _ _ _ _
  case turnOnDisplay => exact smooth_opsTurnOnDisplay _ _
  case waitIdle | close | pack => simp [expansion, opsWaitIdle, opsClose, opsPack, MicroOp.inRange]
  case sendCommand => exact smooth_frame_uWrImm _ _ _
  all_goals exact (panelForm_expansion hl rfl).smooth _

/-- What is loaded for an accepted instruction is in range; of `INIT`, the `uOPEN` too. -/
theorem inRange_take {s : State} {i : Instr} (hl : s.cfg.legal = true) (hturn : turnedAway s i = none) :
    (s.take i).InRange := by
  by_cases hinit : i = .init
  · subst hinit
    obtain ⟨hopened, -⟩ := smooth_and_uPoll_notMem_opsInitOpened s.cfg
    exact List.forall_mem_cons.2 ⟨trivial, fun m hm => (hopened m hm).2⟩
  · exact fun m hm => (smooth_expansion hl hinit hturn m hm).2

/-! ## What can fault -/

/-- A micro-operation that accesses only addresses inside their spaces is performed. -/
theorem perform_next_of_inRange {m : MicroOp} {s : State} (h : m.inRange s.cfg) : ∃ t, perform m s = .next t := by
  cases m
  case uWrRow j => exact ⟨_, performWriteFrom_of_le (row_le_sizeOf h)⟩
  case uWrPay n => exact ⟨_, performWriteFrom_of_le ((Nat.zero_add n).trans_le h)⟩
  all_goals exact ⟨_, rfl⟩

/-- Executing an instruction raises no fault: it is accepted, turned away or refused (R97). -/
theorem exec_ne_fault (i : Instr) (s : State) (f : Fault) : exec i s ≠ .fault f := by
  rw [exec_eq, accept]
  split_ifs
  · cases turnedAway s i <;> nofun
  · nofun
  · nofun

/-- Everything a step that faults can be: the PDC is halted, its micro-operation faults, or the host writes past the end
of `PAY` (R236; log entries 7 and 11). -/
theorem step_fault_cases {s : State} {f : Fault} (h : step s = .fault f) :
    (s.halt = true ∧ f = .halted s.cause) ∨
    (∃ m rest, s.seq = m :: rest ∧ perform m { s with seq := rest } = .fault f) ∨
    (s.idle = true ∧ ∃ bytes rest, s.host = .writePay bytes :: rest ∧ s.cfg.paySize < bytes.length) := by
  cases hl : s.cfg.legal
  · simp [step, fetch, hl] at h
  obtain hh | hh := Bool.eq_false_or_eq_true s.halt
  · rw [step_halted hl hh] at h
    cases h
    exact .inl ⟨hh, rfl⟩
  cases hs : s.seq with
  | cons m rest => exact .inr (.inl ⟨m, rest, rfl, (step_perform hl hh hs).symm.trans h⟩)
  | nil =>
    have hi : s.idle = true := s.idle_iff.2 ⟨hs, hh⟩
    cases ho : s.host with
    | nil => cases (step_wait hl hi ho).symm.trans h
    | cons move rest =>
      cases move with
      | present w =>
        cases hd : decode s.cfg w with
        | ok i => exact absurd ((step_present hl hi ho hd).symm.trans h) (exec_ne_fault _ _ _)
        | error e => cases (step_present_error hl hi ho hd).symm.trans h
      | writePay bytes =>
        by_cases hb : bytes.length ≤ s.cfg.paySize
        · cases (step_writePay hl hi ho hb).symm.trans h
        · exact .inr (.inr ⟨hi, bytes, rest, rfl, Nat.lt_of_not_le hb⟩)
      | writeImg bytes => cases (step_writeImg hl hi ho).symm.trans h

/-! ## The invariant -/

/-- Settles O31: a micro-operation leaves in range what is pending, and what is accepted is in range as loaded; a
pending micro-operation that is in range is performed, so that of what faults only the host's write is left. -/
theorem noAccessFaults : Obligations.NoAccessFaults := by
  unfold Obligations.NoAccessFaults
  refine ⟨fun s t hs h => ?_, fun s sp a hs h => ?_⟩
  · have hl : s.cfg.legal = true := (step_cases h).1
    cases (step_stepTo h).2 with
    | performed hseq hp =>
      rw [State.InRange, hseq] at hs
      exact perform_inRange hp (List.forall_mem_cons.1 hs).2
    | taken _ _ _ hturn => exact inRange_take hl hturn
    | waited | flagged | wrotePay | wroteImg => exact hs
  · obtain ⟨-, hf⟩ | ⟨m, rest, hseq, hp⟩ | hpay := step_fault_cases h
    · cases hf
    · have hm : m.inRange s.cfg := hs m (hseq ▸ List.mem_cons_self)
      obtain ⟨t, ht⟩ := perform_next_of_inRange (s := { s with seq := rest }) hm
      rw [ht] at hp
      cases hp
    · exact hpay

end Sys2Proof.Machine

/-! PROOFS. Where a run ends (spec/10_state.md R28; spec/60_exceptions.md R236 to R240): a halted PDC goes no
further, and an operation that never samples the busy line ends or halts within the length of its `SEQ`. -/

namespace Sys2Proof.Machine

/-! ## A halted PDC (R236, R240) -/

/-- A halted PDC is not idle (R33). -/
theorem State.idle_of_halt {s : State} (hh : s.halt = true) : s.idle = false := by
  simp [State.idle, hh]

/-- Settles O21: a halted PDC is not idle, so that nothing is accepted and no operation has completed; the two bits of
`STAT` are O35's. -/
theorem faultsHaltForGood : Obligations.FaultsHaltForGood := by
  unfold Obligations.FaultsHaltForGood
  refine ⟨fun _ _ => rfl, fun s hl hh => ?_⟩
  have hi : s.idle = false := State.idle_of_halt hh
  obtain ⟨-, hidleBit, hhaltBit, -⟩ := statFields s
  refine ⟨step_halted hl hh, fun i => nothingIsExecutedWhileBusy s i hi, ?_, hhaltBit.trans hh, ?_⟩
  · rw [hidleBit]
    simp [hh]
  · rintro r ⟨-, hidle, -⟩
    cases hi.symm.trans hidle

/-! ## An operation that does not wait (R237) -/

/-- Whatever the environment answers, micro-operations that are in range and do not poll are used up one a step, unless
one of them halts the PDC (R26, R236). -/
theorem ends_within_seq_length {s : State} (hl : s.cfg.legal = true) (hr : s.InRange) (hpoll : .uPoll ∉ s.seq) :
    ∃ n t, n ≤ s.seq.length ∧ Steps n s t ∧ (t.idle = true ∨ t.halt = true) := by
  generalize hseq : s.seq = ops at hpoll
  induction ops generalizing s with
  | nil =>
    refine ⟨0, s, Nat.le_refl _, rfl, ?_⟩
    cases hh : s.halt
    · exact .inl (s.idle_iff.2 ⟨hseq, hh⟩)
    · exact .inr rfl
  | cons m rest ih =>
    cases hh : s.halt with
    | true => exact ⟨0, s, Nat.zero_le _, rfl, .inr hh⟩
    | false =>
      obtain ⟨hm, hrest⟩ := not_or.1 (mt List.mem_cons.2 hpoll)
      rw [State.InRange, hseq] at hr
      obtain ⟨hmr, hrr⟩ := List.forall_mem_cons.1 hr
      obtain ⟨u, hu⟩ := perform_next_of_inRange (s := { s with seq := rest }) hmr
      have hstep : Steps 1 s u := steps_perform hl hh hseq hu
      have hP := perform_performed hu
      obtain hkept | ⟨hhalt, -⟩ | ⟨hpolled, -⟩ := hP.seq
      · obtain ⟨n, t, hn, hsteps, hend⟩ := ih (hP.cfg ▸ hl) (perform_inRange hu hrr) hkept hrest
        exact ⟨1 + n, t, by rw [List.length_cons]; omega, hstep.trans hsteps, hend⟩
      · exact ⟨1, u, by simp, hstep, .inr hhalt⟩
      · exact absurd hpolled.symm hm

/-- Only `WAIT_IDLE`, `SET_CURSOR`, `TURN_ON_DISPLAY`, `DISPLAY` and `CLEAR` wait for the busy line (R201, R237). -/
theorem uPoll_notMem_expansion {c : Config} {i : Instr} (hl : c.legal = true)
    (hwait : i ∉ [.waitIdle, .turnOnDisplay]) (hcursor : ∀ x y, i ≠ .setCursor x y)
    (hdisplay : ∀ w h p, i ≠ .display w h p) (hclear : ∀ f, i ≠ .clear f) : .uPoll ∉ expansion c i := by
  cases i
  case waitIdle | turnOnDisplay => simp at hwait
  case setCursor x y => exact absurd rfl (hcursor x y)
  case display w h p => exact absurd rfl (hdisplay w h p)
  case clear f => exact absurd rfl (hclear f)
  case init =>
    obtain ⟨-, hopened⟩ := smooth_and_uPoll_notMem_opsInitOpened c
    simpa [expansion, opsInit_eq_cons] using hopened
  case setWindow => exact uPoll_notMem_opsSetWindow _ _ _ _ _
  case sendCommand | sendData | close | pack =>
    simp [expansion, opsSendCommand, frameC, opsSendData, opsClose, opsPack]
  all_goals exact (panelForm_expansion hl rfl).uPoll_notMem

/-- Settles O50: an instruction that is turned away leaves the PDC idle; one that is taken loads micro-operations that
are in range and do not poll. -/
theorem operationsWithoutAWaitEnd : Obligations.OperationsWithoutAWaitEnd := by
  unfold Obligations.OperationsWithoutAWaitEnd
  rintro s a i hl hx ⟨hwait, hcursor, hdisplay, hclear⟩
  obtain ⟨hi, ⟨f, -, rfl⟩ | ⟨-, hturn, rfl⟩⟩ := exec_cases hx
  · exact ⟨0, s.setFlag f, Nat.zero_le _, rfl, .inl hi⟩
  · exact ends_within_seq_length hl (inRange_take hl hturn)
      (uPoll_notMem_expansion hl hwait hcursor hdisplay hclear)

end Sys2Proof.Machine
